-- ==== Sys2Proof/Config.lean ====
section
/-! DEFINITION. The implementation parameters of R6 (spec/00_scope.md) and the one free value of the model. -/

namespace Sys2Proof.Config

/-- `RUN_W` (R6, D10): the width in bits of `run_acc` and `out_len`. -/
abbrev runW : Nat := 32

/-- `CODE_W` (R6, R23): the width of `code_acc`, one more than the longest codeword. -/
abbrev codeW : Nat := 14

/-- `LEN_W` (R6, R24): the width of `code_len`. -/
abbrev lenW : Nat := 4

/-- `BITS_PER_CYCLE` (R6, R49): bits consumed by one `Bit` event. -/
abbrev bitsPerCycle : Nat := 1

/-- `N_DEC` (R6, R132): decoder instances that share the LUT; Machine/Instances.lean takes any number. -/
abbrev nDec : Nat := 1

/-- FREE VALUE (log entry 7): what `code_len` holds after a `Bit` event that starts from `code_len = 15`, whose
length 16 does not fit the register (R24: unreachable; R80 types the length as 0..14). Nothing constrains it. -/
opaque codeLenBeyond : BitVec codeW → BitVec lenW

end Sys2Proof.Config
end

