-- ==== Sys2Proof/Word.lean ====
section
/-! DEFINITION. The plain types of the hardware: the register words, the colors, the state and error codes, LUT words
and entries, runs, codewords and port values. -/

namespace Sys2Proof

/-- A run length, as `run_acc` and `out_len` hold it (R22, R25). -/
abbrev RunLen := BitVec Config.runW

/-- The bit accumulator `code_acc` (R23). -/
abbrev CodeAcc := BitVec Config.codeW

/-- The length register `code_len` (R24). -/
abbrev CodeLen := BitVec Config.lenW

/-- One 32-bit word of `huffman_lut` (R61). -/
abbrev LutWord := BitVec 32

/-- `WHITE = 0`, `BLACK = 1` (R8, R21). -/
inductive Color where
  | white
  | black
  deriving DecidableEq, Repr

/-- The values of `st` (R20). The three unused codes are represented too (R34). -/
inductive St where
  | reading
  | runComplete
  | endOfLine
  | error
  | endOfData
  | unused5
  | unused6
  | unused7
  deriving DecidableEq, Repr

/-- The values of `err_code` (R26, R120). -/
inductive ErrCode where
  | none
  | invalidCodeword
  | unexpectedEndOfData
  | runOverflow
  deriving DecidableEq, Repr

/-- `kind` of a LUT word (R62). -/
inductive Kind where
  | term
  | makeup
  | eol
  | empty
  deriving DecidableEq, Repr

/-- The fields of one LUT word (R61). -/
structure LutEntry where
  kind      : Kind
  bitLength : Nat
  pattern   : BitVec 13
  shared    : Bool
  value     : BitVec 12
  deriving DecidableEq, Repr

/-- A configuration `LUT_TABLE` (R40): the words of the two banks, index 0 first. -/
structure LutTable where
  white : List LutWord
  black : List LutWord
  deriving DecidableEq, Repr

/-- One run, `(color, length)`, as the host takes it (R25, R102). -/
structure Run where
  color  : Color
  length : RunLen
  deriving DecidableEq, Repr

/-- The encoding of a codeword: its bank, its length and its right-justified bits (R60, R61). -/
structure Codeword where
  color   : Color
  len     : Nat
  pattern : BitVec 13
  deriving DecidableEq, Repr

/-- The input ports in one cycle (R74). -/
structure Ports where
  rst      : Bool
  start    : Bool
  bitValid : Bool
  bitEnd   : Bool
  runReady : Bool
  bitIn    : Bool
  deriving DecidableEq, Repr

end Sys2Proof
end

