-- ==== Sys2Proof/Machine/Lut.lean ====
section
/-! DEFINITION. `huffman_lut`: the ROM image `T4_MH` (R40 to R42, R66 to R71), the fields of a LUT word (R61 to R63),
the address map (R41), the lookup `LutRead` (R43) and `LMAX` (R44). The LUT has no state (R29) and no operation
writes it (R45). -/

namespace Sys2Proof.Machine

/-- `kind` encoding of bits 31:30 (R62). -/
def kindOf (b : BitVec 2) : Kind :=
  if b = 0b00#2 then .term
  else if b = 0b01#2 then .makeup
  else if b = 0b10#2 then .eol
  else .empty

/-- Field `kind`, bits 31:30 (R61). -/
def lutKind (w : LutWord) : Kind := kindOf (w.extractLsb' 30 2)

/-- Field `bitLength`, bits 29:26 (R61). -/
def lutBitLength (w : LutWord) : Nat := (w.extractLsb' 26 4).toNat

/-- Field `pattern`, bits 25:13, right-justified (R61). -/
def lutPattern (w : LutWord) : BitVec 13 := w.extractLsb' 13 13

/-- Field `shared`, bit 12; no rule of the decoder reads it (R61). -/
def lutShared (w : LutWord) : Bool := w.getLsbD 12

/-- Field `value`, bits 11:0 (R61). -/
def lutValue (w : LutWord) : BitVec 12 := w.extractLsb' 0 12

/-- The entry a LUT word holds (R61). -/
def entryOf (w : LutWord) : LutEntry :=
  { kind := lutKind w, bitLength := lutBitLength w, pattern := lutPattern w, shared := lutShared w,
    value := lutValue w }

/-- The run-length operand of an entry, unsigned and never scaled (R63). -/
def runLengthOf (e : LutEntry) : Nat := e.value.toNat

/-- The source's sentinel: `value` read as a signed number, -1 for the EOL entry (R63). No action reads it (R92). -/
def signedValueOf (e : LutEntry) : Int := e.value.toInt

/-- The empty word of the unused indices (R41, R62). -/
def emptyWord : LutWord := 0xC0000000#32

/-- White bank (R41, R42, R66 to R69), indices 0 to 34. -/
def whiteWords0 : List LutWord :=
  [0x1000E002#32, 0x10010003#32, 0x10016004#32, 0x10018005#32, 0x1001C006#32, 0x1001E007#32, 0x1400E00A#32,
   0x1401000B#32, 0x54024080#32, 0x14026008#32, 0x14028009#32, 0x54036040#32, 0x1800600D#32, 0x1800E001#32,
   0x1801000C#32, 0x5802E0C0#32, 0x58030680#32, 0x18054010#32, 0x18056011#32, 0x1806800E#32, 0x1806A00F#32,
   0x1C006016#32, 0x1C008017#32, 0x1C010014#32, 0x1C018013#32, 0x1C02601A#32, 0x1C02E015#32, 0x1C03001C#32,
   0x1C04801B#32, 0x1C04E012#32, 0x1C050018#32, 0x1C056019#32, 0x5C06E100#32, 0x2000401D#32, 0x2000601E#32]

/-- White bank (R41, R42, R66 to R69), indices 35 to 69. -/
def whiteWords1 : List LutWord :=
  [0x2000802D#32, 0x2000A02E#32, 0x2001402F#32, 0x20016030#32, 0x20024021#32, 0x20026022#32, 0x20028023#32,
   0x2002A024#32, 0x2002C025#32, 0x2002E026#32, 0x2003401F#32, 0x20036020#32, 0x20048035#32, 0x2004A036#32,
   0x20050027#32, 0x20052028#32, 0x20054029#32, 0x2005602A#32, 0x2005802B#32, 0x2005A02C#32, 0x2006403D#32,
   0x2006603E#32, 0x2006803F#32, 0x2006A000#32, 0x6006C140#32, 0x6006E180#32, 0x2009403B#32, 0x2009603C#32,
   0x200A4031#32, 0x200A6032#32, 0x200A8033#32, 0x200AA034#32, 0x200B0037#32, 0x200B2038#32, 0x200B4039#32]

/-- White bank (R41, R42, R66 to R69), indices 70 to 104. -/
def whiteWords2 : List LutWord :=
  [0x200B603A#32, 0x600C81C0#32, 0x600CA200#32, 0x600CE280#32, 0x600D0240#32, 0x641305C0#32, 0x64132600#32,
   0x64134640#32, 0x641366C0#32, 0x641982C0#32, 0x6419A300#32, 0x641A4340#32, 0x641A6380#32, 0x641A83C0#32,
   0x641AA400#32, 0x641AC440#32, 0x641AE480#32, 0x641B04C0#32, 0x641B2500#32, 0x641B4540#32, 0x641B6580#32,
   0x6C011700#32, 0x6C019740#32, 0x6C01B780#32, 0xB0002FFF#32, 0x700257C0#32, 0x70027800#32, 0x70029840#32,
   0x7002B880#32, 0x7002D8C0#32, 0x7002F900#32, 0x70039940#32, 0x7003B980#32, 0x7003D9C0#32, 0x7003FA00#32]

/-- Black bank (R41, R42, R68 to R71), indices 0 to 34. -/
def blackWords0 : List LutWord :=
  [0x08004003#32, 0x08006002#32, 0x0C004001#32, 0x0C006004#32, 0x10004006#32, 0x10006005#32, 0x14006007#32,
   0x18008009#32, 0x1800A008#32, 0x1C00800A#32, 0x1C00A00B#32, 0x1C00E00C#32, 0x2000800D#32, 0x2000E00E#32,
   0x2403000F#32, 0x28010012#32, 0x6801E040#32, 0x2802E010#32, 0x28030011#32, 0x2806E000#32, 0x6C011700#32,
   0x6C019740#32, 0x6C01B780#32, 0x2C02E018#32, 0x2C030019#32, 0x2C050017#32, 0x2C06E016#32, 0x2C0CE013#32,
   0x2C0D0014#32, 0x2C0D8015#32, 0xB0002FFF#32, 0x700257C0#32, 0x70027800#32, 0x70029840#32, 0x7002B880#32]

/-- Black bank (R41, R42, R68 to R71), indices 35 to 69. -/
def blackWords1 : List LutWord :=
  [0x7002D8C0#32, 0x7002F900#32, 0x70039940#32, 0x7003B980#32, 0x7003D9C0#32, 0x7003FA00#32, 0x30048034#32,
   0x3004E037#32, 0x30050038#32, 0x3005603B#32, 0x3005803C#32, 0x70066140#32, 0x70068180#32, 0x7006A1C0#32,
   0x3006E035#32, 0x30070036#32, 0x300A4032#32, 0x300A6033#32, 0x300A802C#32, 0x300AA02D#32, 0x300AC02E#32,
   0x300AE02F#32, 0x300B0039#32, 0x300B203A#32, 0x300B403D#32, 0x700B6100#32, 0x300C8030#32, 0x300CA031#32,
   0x300CC03E#32, 0x300CE03F#32, 0x300D001E#32, 0x300D201F#32, 0x300D4020#32, 0x300D6021#32, 0x300D8028#32]

/-- Black bank (R41, R42, R68 to R71), indices 70 to 104. -/
def blackWords2 : List LutWord :=
  [0x300DA029#32, 0x70190080#32, 0x701920C0#32, 0x3019401A#32, 0x3019601B#32, 0x3019801C#32, 0x3019A01D#32,
   0x301A4022#32, 0x301A6023#32, 0x301A8024#32, 0x301AA025#32, 0x301AC026#32, 0x301AE027#32, 0x301B402A#32,
   0x301B602B#32, 0x74094280#32, 0x740962C0#32, 0x74098300#32, 0x7409A340#32, 0x740A4500#32, 0x740A6540#32,
   0x740A8580#32, 0x740AA5C0#32, 0x740B4600#32, 0x740B6640#32, 0x740C8680#32, 0x740CA6C0#32, 0x740D8200#32,
   0x740DA240#32, 0x740E4380#32, 0x740E63C0#32, 0x740E8400#32, 0x740EA440#32, 0x740EC480#32, 0x740EE4C0#32]

/-- `LUT_TABLE = T4_MH` (R6, R40). -/
def t4mh : LutTable :=
  { white := whiteWords0 ++ whiteWords1 ++ whiteWords2, black := blackWords0 ++ blackWords1 ++ blackWords2 }

/-- The words of the bank of a color (R41). -/
def bankOf (t : LutTable) : Color → List LutWord
  | .white => t.white
  | .black => t.black

/-- The ROM address of an index of a bank, `color ++ index` (R41). -/
def romAddr (c : Color) (index : BitVec 7) : BitVec 8 :=
  (match c with | .white => 0#1 | .black => 1#1) ++ index

/-- The ROM word at an address; an index that holds no entry reads the empty word (R41). -/
def romWord (t : LutTable) (addr : BitVec 8) : LutWord :=
  let c : Color := if addr.getLsbD 7 then .black else .white
  ((bankOf t c)[(addr.extractLsb' 0 7).toNat]?).getD emptyWord

/-- The comparison of `LutRead` on one word: not `EMPTY`, of length `len`, and `pattern = p[len-1:0]` (R43). -/
def lutMatches (len : Nat) (p : CodeAcc) (w : LutWord) : Bool :=
  decide (lutKind w ≠ .empty) && lutBitLength w == len && (lutPattern w).toNat == p.toNat % 2 ^ len

/-- `LutRead(c, L, p)` (R43): the one entry that matches, or `MISS` (`none`). Total, with no side effect. -/
def lutRead (t : LutTable) (c : Color) (len : Nat) (p : CodeAcc) : Option LutEntry :=
  if len < 1 ∨ 13 < len then none
  else
    match (bankOf t c).filter (lutMatches len p) with
    | [w] => some (entryOf w)
    | _ => none

/-- `LMAX(c)`, the largest `bitLength` of an entry of bank `c` (R44); an `EMPTY` word is no entry (R62). -/
def lmax (t : LutTable) (c : Color) : Nat :=
  ((bankOf t c).filter fun w => lutKind w ≠ .empty).foldl (fun m w => max m (lutBitLength w)) 0

end Sys2Proof.Machine
end

