-- ==== Sys2Proof/Syntax.lean ====
section
/-! DEFINITION. The instructions: one constructor for each of the 216 rows of spec/opcode_table.json, the 210 codewords
of the two banks and the 6 host operations. -/

namespace Sys2Proof

/-- A codeword (`wT2` is the row `W.T2`) or a host operation (`bit b` is the row `Bit` with `bit_in = b`). -/
inductive Instr where
  -- White terminating codes (R66)
  | wT0 | wT1 | wT2 | wT3 | wT4 | wT5 | wT6 | wT7
  | wT8 | wT9 | wT10 | wT11 | wT12 | wT13 | wT14 | wT15
  | wT16 | wT17 | wT18 | wT19 | wT20 | wT21 | wT22 | wT23
  | wT24 | wT25 | wT26 | wT27 | wT28 | wT29 | wT30 | wT31
  | wT32 | wT33 | wT34 | wT35 | wT36 | wT37 | wT38 | wT39
  | wT40 | wT41 | wT42 | wT43 | wT44 | wT45 | wT46 | wT47
  | wT48 | wT49 | wT50 | wT51 | wT52 | wT53 | wT54 | wT55
  | wT56 | wT57 | wT58 | wT59 | wT60 | wT61 | wT62 | wT63
  -- White makeup codes (R67)
  | wM64 | wM128 | wM192 | wM256 | wM320 | wM384 | wM448 | wM512
  | wM576 | wM640 | wM704 | wM768 | wM832 | wM896 | wM960 | wM1024
  | wM1088 | wM1152 | wM1216 | wM1280 | wM1344 | wM1408 | wM1472 | wM1536
  | wM1600 | wM1664 | wM1728
  -- Shared makeup codes of the white bank (R68)
  | wX1792 | wX1856 | wX1920 | wX1984 | wX2048 | wX2112 | wX2176 | wX2240
  | wX2304 | wX2368 | wX2432 | wX2496 | wX2560
  -- Black terminating codes (R70)
  | bT0 | bT1 | bT2 | bT3 | bT4 | bT5 | bT6 | bT7
  | bT8 | bT9 | bT10 | bT11 | bT12 | bT13 | bT14 | bT15
  | bT16 | bT17 | bT18 | bT19 | bT20 | bT21 | bT22 | bT23
  | bT24 | bT25 | bT26 | bT27 | bT28 | bT29 | bT30 | bT31
  | bT32 | bT33 | bT34 | bT35 | bT36 | bT37 | bT38 | bT39
  | bT40 | bT41 | bT42 | bT43 | bT44 | bT45 | bT46 | bT47
  | bT48 | bT49 | bT50 | bT51 | bT52 | bT53 | bT54 | bT55
  | bT56 | bT57 | bT58 | bT59 | bT60 | bT61 | bT62 | bT63
  -- Black makeup codes (R71)
  | bM64 | bM128 | bM192 | bM256 | bM320 | bM384 | bM448 | bM512
  | bM576 | bM640 | bM704 | bM768 | bM832 | bM896 | bM960 | bM1024
  | bM1088 | bM1152 | bM1216 | bM1280 | bM1344 | bM1408 | bM1472 | bM1536
  | bM1600 | bM1664 | bM1728
  -- Shared makeup codes of the black bank (R68)
  | bX1792 | bX1856 | bX1920 | bX1984 | bX2048 | bX2112 | bX2176 | bX2240
  | bX2304 | bX2368 | bX2432 | bX2496 | bX2560
  -- The EOL codeword (R69)
  | wEol | bEol
  -- Host operations (R140, R101, R80, R103, R102, R104)
  | reset | start | bit (b : Bool) | endData | accept | idle
  deriving DecidableEq, Repr

end Sys2Proof
end

