-- ==== Sys2Proof/WellFormed.lean ====
section
/-! DEFINITION. Well-formedness: of a codeword's encoding (R60), and of a configuration `LUT_TABLE`, the source's
`MalformedTable` conditions (R65, R125). An `Instr` carries its whole operand in its constructor's name (R60), so no
ill-formed `Instr` can be written; what can be ill-formed is an encoding or a table. -/

namespace Sys2Proof

open Machine

/-- A codeword is a string of 2 to 13 bits, and its pattern fits in them (R60). -/
def Codeword.wellFormed (cw : Codeword) : Bool :=
  2 ≤ cw.len && cw.len ≤ 13 && cw.pattern.toNat < 2 ^ cw.len

/-- The entries of a bank: its words that are not `EMPTY` (R41, R43). -/
def LutTable.entries (t : LutTable) (c : Color) : List LutEntry :=
  ((bankOf t c).map entryOf).filter (fun e => e.kind ≠ .empty)

/-- Two entries have the same `(bitLength, pattern)`. -/
def LutEntry.sameCode (e f : LutEntry) : Bool :=
  e.bitLength == f.bitLength && e.pattern == f.pattern

/-- The pattern of `e` equals the leading bits of the longer pattern of `f` (R65 (b)). -/
def LutEntry.isPrefixOf (e f : LutEntry) : Bool :=
  e.bitLength < f.bitLength && e.pattern.toNat == f.pattern.toNat / 2 ^ (f.bitLength - e.bitLength)

/-- Every entry of a list is compared with every later one. -/
def allPairs (ok : LutEntry → LutEntry → Bool) : List LutEntry → Bool
  | [] => true
  | e :: es => es.all (ok e) && allPairs ok es

/-- R65 (a): no two entries of the bank have the same `(bitLength, pattern)`. -/
def LutTable.noDuplicates (t : LutTable) (c : Color) : Bool :=
  allPairs (fun e f => !e.sameCode f) (t.entries c)

/-- R65 (b): no entry of the bank is a proper prefix of another. -/
def LutTable.prefixFree (t : LutTable) (c : Color) : Bool :=
  allPairs (fun e f => !e.isPrefixOf f && !f.isPrefixOf e) (t.entries c)

/-- R65 (c) for one entry: the ranges of length, pattern and value. -/
def LutEntry.inRange (e : LutEntry) : Bool :=
  2 ≤ e.bitLength && e.bitLength ≤ 13 && e.pattern.toNat < 2 ^ e.bitLength &&
    match e.kind with
    | .term => e.value.toNat ≤ 63
    | .makeup => e.value.toNat % 64 == 0 && 64 ≤ e.value.toNat && e.value.toNat ≤ 2560
    | .eol => true
    | .empty => true

/-- R65 (c): every entry of the bank is in range. -/
def LutTable.inRange (t : LutTable) (c : Color) : Bool :=
  (t.entries c).all LutEntry.inRange

/-- How many entries of the bank have a kind and a value. -/
def LutTable.count (t : LutTable) (c : Color) (k : Kind) (v : Nat) : Nat :=
  ((t.entries c).filter (fun e => e.kind == k && e.value.toNat == v)).length

/-- R65 (d): every run length 0..63 has one `TERM` entry, every multiple of 64 up to 2560 one `MAKEUP` entry, and
there is one `EOL` entry, `000000000001`. -/
def LutTable.complete (t : LutTable) (c : Color) : Bool :=
  (List.range 64).all (fun v => t.count c .term v == 1) &&
  (List.range 40).all (fun k => t.count c .makeup (64 * (k + 1)) == 1) &&
  ((t.entries c).filter (fun e => e.kind == .eol)).map (fun e => (e.bitLength, e.pattern)) == [(12, 1#13)]

/-- The codes of the makeup entries of one value in a bank. -/
def LutTable.makeupCodes (t : LutTable) (c : Color) (v : Nat) : List (Nat × BitVec 13) :=
  ((t.entries c).filter (fun e => e.kind == .makeup && e.value.toNat == v)).map
    (fun e => (e.bitLength, e.pattern))

/-- R65 (e): the makeup entries 1792 to 2560 have the same code in both banks. -/
def LutTable.sharedIdentical (t : LutTable) : Bool :=
  (List.range 13).all (fun k =>
    t.makeupCodes .white (1792 + 64 * k) == t.makeupCodes .black (1792 + 64 * k))

/-- The checks (a) to (d) of R65 for one bank. -/
def LutTable.bankWellFormed (t : LutTable) (c : Color) : Bool :=
  t.noDuplicates c && t.prefixFree c && t.inRange c && t.complete c

/-- R65: a configuration is well formed when (a) to (d) hold of each bank, and (e). -/
def LutTable.wellFormed (t : LutTable) : Bool :=
  t.bankWellFormed .white && t.bankWellFormed .black && t.sharedIdentical

end Sys2Proof
end

