-- ==== Sys2Proof/Decode.lean ====
section
/-! DEFINITION. Decoding, total on any bits and any bytes, rejecting by name: codewords in a bank, bit by bit (R73) and
over a 13-bit window (R64); host operations from the port values (R74, R105). After it the encoder: the codeword or
the port word of every instruction. -/

namespace Sys2Proof

open Machine

/-- Why a word is not an instruction. -/
inductive DecodeError where
  /-- The bits are no codeword of the bank and no first part of one: unassigned code space (R72). -/
  | unassignedCodeword
  /-- The bits end before a codeword of the bank is complete (R123). -/
  | truncatedCodeword
  /-- A port word with a bit above `bit_in` set: the control vector has 5 bits and `bit_in` one (R74). -/
  | portWordTooLarge
  deriving DecidableEq, Repr

/-! ### Codewords -/

/-- One codeword row of the opcode table in match/mask form over a 13-bit window (R64). -/
structure CodeRow where
  instr : Instr
  mtch  : BitVec 13
  mask  : BitVec 13
  deriving DecidableEq, Repr

/-- Rows of the white bank (R66 to R69), part 1 of 3, in the table's order. -/
def whiteRows0 : List CodeRow :=
  [⟨.wT2, 0x0E00, 0x1E00⟩,
   ⟨.wT3, 0x1000, 0x1E00⟩,
   ⟨.wT4, 0x1600, 0x1E00⟩,
   ⟨.wT5, 0x1800, 0x1E00⟩,
   ⟨.wT6, 0x1C00, 0x1E00⟩,
   ⟨.wT7, 0x1E00, 0x1E00⟩,
   ⟨.wT10, 0x0700, 0x1F00⟩,
   ⟨.wT11, 0x0800, 0x1F00⟩,
   ⟨.wM128, 0x1200, 0x1F00⟩,
   ⟨.wT8, 0x1300, 0x1F00⟩,
   ⟨.wT9, 0x1400, 0x1F00⟩,
   ⟨.wM64, 0x1B00, 0x1F00⟩,
   ⟨.wT13, 0x0180, 0x1F80⟩,
   ⟨.wT1, 0x0380, 0x1F80⟩,
   ⟨.wT12, 0x0400, 0x1F80⟩,
   ⟨.wM192, 0x0B80, 0x1F80⟩,
   ⟨.wM1664, 0x0C00, 0x1F80⟩,
   ⟨.wT16, 0x1500, 0x1F80⟩,
   ⟨.wT17, 0x1580, 0x1F80⟩,
   ⟨.wT14, 0x1A00, 0x1F80⟩,
   ⟨.wT15, 0x1A80, 0x1F80⟩,
   ⟨.wT22, 0x00C0, 0x1FC0⟩,
   ⟨.wT23, 0x0100, 0x1FC0⟩,
   ⟨.wT20, 0x0200, 0x1FC0⟩,
   ⟨.wT19, 0x0300, 0x1FC0⟩,
   ⟨.wT26, 0x04C0, 0x1FC0⟩,
   ⟨.wT21, 0x05C0, 0x1FC0⟩,
   ⟨.wT28, 0x0600, 0x1FC0⟩,
   ⟨.wT27, 0x0900, 0x1FC0⟩,
   ⟨.wT18, 0x09C0, 0x1FC0⟩,
   ⟨.wT24, 0x0A00, 0x1FC0⟩,
   ⟨.wT25, 0x0AC0, 0x1FC0⟩,
   ⟨.wM256, 0x0DC0, 0x1FC0⟩,
   ⟨.wT29, 0x0040, 0x1FE0⟩,
   ⟨.wT30, 0x0060, 0x1FE0⟩]

/-- Rows of the white bank (R66 to R69), part 2 of 3, in the table's order. -/
def whiteRows1 : List CodeRow :=
  [⟨.wT45, 0x0080, 0x1FE0⟩,
   ⟨.wT46, 0x00A0, 0x1FE0⟩,
   ⟨.wT47, 0x0140, 0x1FE0⟩,
   ⟨.wT48, 0x0160, 0x1FE0⟩,
   ⟨.wT33, 0x0240, 0x1FE0⟩,
   ⟨.wT34, 0x0260, 0x1FE0⟩,
   ⟨.wT35, 0x0280, 0x1FE0⟩,
   ⟨.wT36, 0x02A0, 0x1FE0⟩,
   ⟨.wT37, 0x02C0, 0x1FE0⟩,
   ⟨.wT38, 0x02E0, 0x1FE0⟩,
   ⟨.wT31, 0x0340, 0x1FE0⟩,
   ⟨.wT32, 0x0360, 0x1FE0⟩,
   ⟨.wT53, 0x0480, 0x1FE0⟩,
   ⟨.wT54, 0x04A0, 0x1FE0⟩,
   ⟨.wT39, 0x0500, 0x1FE0⟩,
   ⟨.wT40, 0x0520, 0x1FE0⟩,
   ⟨.wT41, 0x0540, 0x1FE0⟩,
   ⟨.wT42, 0x0560, 0x1FE0⟩,
   ⟨.wT43, 0x0580, 0x1FE0⟩,
   ⟨.wT44, 0x05A0, 0x1FE0⟩,
   ⟨.wT61, 0x0640, 0x1FE0⟩,
   ⟨.wT62, 0x0660, 0x1FE0⟩,
   ⟨.wT63, 0x0680, 0x1FE0⟩,
   ⟨.wT0, 0x06A0, 0x1FE0⟩,
   ⟨.wM320, 0x06C0, 0x1FE0⟩,
   ⟨.wM384, 0x06E0, 0x1FE0⟩,
   ⟨.wT59, 0x0940, 0x1FE0⟩,
   ⟨.wT60, 0x0960, 0x1FE0⟩,
   ⟨.wT49, 0x0A40, 0x1FE0⟩,
   ⟨.wT50, 0x0A60, 0x1FE0⟩,
   ⟨.wT51, 0x0A80, 0x1FE0⟩,
   ⟨.wT52, 0x0AA0, 0x1FE0⟩,
   ⟨.wT55, 0x0B00, 0x1FE0⟩,
   ⟨.wT56, 0x0B20, 0x1FE0⟩,
   ⟨.wT57, 0x0B40, 0x1FE0⟩]

/-- Rows of the white bank (R66 to R69), part 3 of 3, in the table's order. -/
def whiteRows2 : List CodeRow :=
  [⟨.wT58, 0x0B60, 0x1FE0⟩,
   ⟨.wM448, 0x0C80, 0x1FE0⟩,
   ⟨.wM512, 0x0CA0, 0x1FE0⟩,
   ⟨.wM640, 0x0CE0, 0x1FE0⟩,
   ⟨.wM576, 0x0D00, 0x1FE0⟩,
   ⟨.wM1472, 0x0980, 0x1FF0⟩,
   ⟨.wM1536, 0x0990, 0x1FF0⟩,
   ⟨.wM1600, 0x09A0, 0x1FF0⟩,
   ⟨.wM1728, 0x09B0, 0x1FF0⟩,
   ⟨.wM704, 0x0CC0, 0x1FF0⟩,
   ⟨.wM768, 0x0CD0, 0x1FF0⟩,
   ⟨.wM832, 0x0D20, 0x1FF0⟩,
   ⟨.wM896, 0x0D30, 0x1FF0⟩,
   ⟨.wM960, 0x0D40, 0x1FF0⟩,
   ⟨.wM1024, 0x0D50, 0x1FF0⟩,
   ⟨.wM1088, 0x0D60, 0x1FF0⟩,
   ⟨.wM1152, 0x0D70, 0x1FF0⟩,
   ⟨.wM1216, 0x0D80, 0x1FF0⟩,
   ⟨.wM1280, 0x0D90, 0x1FF0⟩,
   ⟨.wM1344, 0x0DA0, 0x1FF0⟩,
   ⟨.wM1408, 0x0DB0, 0x1FF0⟩,
   ⟨.wX1792, 0x0020, 0x1FFC⟩,
   ⟨.wX1856, 0x0030, 0x1FFC⟩,
   ⟨.wX1920, 0x0034, 0x1FFC⟩,
   ⟨.wEol, 0x0002, 0x1FFE⟩,
   ⟨.wX1984, 0x0024, 0x1FFE⟩,
   ⟨.wX2048, 0x0026, 0x1FFE⟩,
   ⟨.wX2112, 0x0028, 0x1FFE⟩,
   ⟨.wX2176, 0x002A, 0x1FFE⟩,
   ⟨.wX2240, 0x002C, 0x1FFE⟩,
   ⟨.wX2304, 0x002E, 0x1FFE⟩,
   ⟨.wX2368, 0x0038, 0x1FFE⟩,
   ⟨.wX2432, 0x003A, 0x1FFE⟩,
   ⟨.wX2496, 0x003C, 0x1FFE⟩,
   ⟨.wX2560, 0x003E, 0x1FFE⟩]

/-- Rows of the black bank (R68 to R71), part 1 of 3, in the table's order. -/
def blackRows0 : List CodeRow :=
  [⟨.bT3, 0x1000, 0x1800⟩,
   ⟨.bT2, 0x1800, 0x1800⟩,
   ⟨.bT1, 0x0800, 0x1C00⟩,
   ⟨.bT4, 0x0C00, 0x1C00⟩,
   ⟨.bT6, 0x0400, 0x1E00⟩,
   ⟨.bT5, 0x0600, 0x1E00⟩,
   ⟨.bT7, 0x0300, 0x1F00⟩,
   ⟨.bT9, 0x0200, 0x1F80⟩,
   ⟨.bT8, 0x0280, 0x1F80⟩,
   ⟨.bT10, 0x0100, 0x1FC0⟩,
   ⟨.bT11, 0x0140, 0x1FC0⟩,
   ⟨.bT12, 0x01C0, 0x1FC0⟩,
   ⟨.bT13, 0x0080, 0x1FE0⟩,
   ⟨.bT14, 0x00E0, 0x1FE0⟩,
   ⟨.bT15, 0x0180, 0x1FF0⟩,
   ⟨.bT18, 0x0040, 0x1FF8⟩,
   ⟨.bM64, 0x0078, 0x1FF8⟩,
   ⟨.bT16, 0x00B8, 0x1FF8⟩,
   ⟨.bT17, 0x00C0, 0x1FF8⟩,
   ⟨.bT0, 0x01B8, 0x1FF8⟩,
   ⟨.bX1792, 0x0020, 0x1FFC⟩,
   ⟨.bX1856, 0x0030, 0x1FFC⟩,
   ⟨.bX1920, 0x0034, 0x1FFC⟩,
   ⟨.bT24, 0x005C, 0x1FFC⟩,
   ⟨.bT25, 0x0060, 0x1FFC⟩,
   ⟨.bT23, 0x00A0, 0x1FFC⟩,
   ⟨.bT22, 0x00DC, 0x1FFC⟩,
   ⟨.bT19, 0x019C, 0x1FFC⟩,
   ⟨.bT20, 0x01A0, 0x1FFC⟩,
   ⟨.bT21, 0x01B0, 0x1FFC⟩,
   ⟨.bEol, 0x0002, 0x1FFE⟩,
   ⟨.bX1984, 0x0024, 0x1FFE⟩,
   ⟨.bX2048, 0x0026, 0x1FFE⟩,
   ⟨.bX2112, 0x0028, 0x1FFE⟩,
   ⟨.bX2176, 0x002A, 0x1FFE⟩]

/-- Rows of the black bank (R68 to R71), part 2 of 3, in the table's order. -/
def blackRows1 : List CodeRow :=
  [⟨.bX2240, 0x002C, 0x1FFE⟩,
   ⟨.bX2304, 0x002E, 0x1FFE⟩,
   ⟨.bX2368, 0x0038, 0x1FFE⟩,
   ⟨.bX2432, 0x003A, 0x1FFE⟩,
   ⟨.bX2496, 0x003C, 0x1FFE⟩,
   ⟨.bX2560, 0x003E, 0x1FFE⟩,
   ⟨.bT52, 0x0048, 0x1FFE⟩,
   ⟨.bT55, 0x004E, 0x1FFE⟩,
   ⟨.bT56, 0x0050, 0x1FFE⟩,
   ⟨.bT59, 0x0056, 0x1FFE⟩,
   ⟨.bT60, 0x0058, 0x1FFE⟩,
   ⟨.bM320, 0x0066, 0x1FFE⟩,
   ⟨.bM384, 0x0068, 0x1FFE⟩,
   ⟨.bM448, 0x006A, 0x1FFE⟩,
   ⟨.bT53, 0x006E, 0x1FFE⟩,
   ⟨.bT54, 0x0070, 0x1FFE⟩,
   ⟨.bT50, 0x00A4, 0x1FFE⟩,
   ⟨.bT51, 0x00A6, 0x1FFE⟩,
   ⟨.bT44, 0x00A8, 0x1FFE⟩,
   ⟨.bT45, 0x00AA, 0x1FFE⟩,
   ⟨.bT46, 0x00AC, 0x1FFE⟩,
   ⟨.bT47, 0x00AE, 0x1FFE⟩,
   ⟨.bT57, 0x00B0, 0x1FFE⟩,
   ⟨.bT58, 0x00B2, 0x1FFE⟩,
   ⟨.bT61, 0x00B4, 0x1FFE⟩,
   ⟨.bM256, 0x00B6, 0x1FFE⟩,
   ⟨.bT48, 0x00C8, 0x1FFE⟩,
   ⟨.bT49, 0x00CA, 0x1FFE⟩,
   ⟨.bT62, 0x00CC, 0x1FFE⟩,
   ⟨.bT63, 0x00CE, 0x1FFE⟩,
   ⟨.bT30, 0x00D0, 0x1FFE⟩,
   ⟨.bT31, 0x00D2, 0x1FFE⟩,
   ⟨.bT32, 0x00D4, 0x1FFE⟩,
   ⟨.bT33, 0x00D6, 0x1FFE⟩,
   ⟨.bT40, 0x00D8, 0x1FFE⟩]

/-- Rows of the black bank (R68 to R71), part 3 of 3, in the table's order. -/
def blackRows2 : List CodeRow :=
  [⟨.bT41, 0x00DA, 0x1FFE⟩,
   ⟨.bM128, 0x0190, 0x1FFE⟩,
   ⟨.bM192, 0x0192, 0x1FFE⟩,
   ⟨.bT26, 0x0194, 0x1FFE⟩,
   ⟨.bT27, 0x0196, 0x1FFE⟩,
   ⟨.bT28, 0x0198, 0x1FFE⟩,
   ⟨.bT29, 0x019A, 0x1FFE⟩,
   ⟨.bT34, 0x01A4, 0x1FFE⟩,
   ⟨.bT35, 0x01A6, 0x1FFE⟩,
   ⟨.bT36, 0x01A8, 0x1FFE⟩,
   ⟨.bT37, 0x01AA, 0x1FFE⟩,
   ⟨.bT38, 0x01AC, 0x1FFE⟩,
   ⟨.bT39, 0x01AE, 0x1FFE⟩,
   ⟨.bT42, 0x01B4, 0x1FFE⟩,
   ⟨.bT43, 0x01B6, 0x1FFE⟩,
   ⟨.bM640, 0x004A, 0x1FFF⟩,
   ⟨.bM704, 0x004B, 0x1FFF⟩,
   ⟨.bM768, 0x004C, 0x1FFF⟩,
   ⟨.bM832, 0x004D, 0x1FFF⟩,
   ⟨.bM1280, 0x0052, 0x1FFF⟩,
   ⟨.bM1344, 0x0053, 0x1FFF⟩,
   ⟨.bM1408, 0x0054, 0x1FFF⟩,
   ⟨.bM1472, 0x0055, 0x1FFF⟩,
   ⟨.bM1536, 0x005A, 0x1FFF⟩,
   ⟨.bM1600, 0x005B, 0x1FFF⟩,
   ⟨.bM1664, 0x0064, 0x1FFF⟩,
   ⟨.bM1728, 0x0065, 0x1FFF⟩,
   ⟨.bM512, 0x006C, 0x1FFF⟩,
   ⟨.bM576, 0x006D, 0x1FFF⟩,
   ⟨.bM896, 0x0072, 0x1FFF⟩,
   ⟨.bM960, 0x0073, 0x1FFF⟩,
   ⟨.bM1024, 0x0074, 0x1FFF⟩,
   ⟨.bM1088, 0x0075, 0x1FFF⟩,
   ⟨.bM1152, 0x0076, 0x1FFF⟩,
   ⟨.bM1216, 0x0077, 0x1FFF⟩]

/-- The codeword rows of a bank. -/
def codeRows : Color → List CodeRow
  | .white => whiteRows0 ++ whiteRows1 ++ whiteRows2
  | .black => blackRows0 ++ blackRows1 ++ blackRows2

/-- `mask` of a codeword of a length (R64). -/
def windowMask (len : Nat) : Nat := (2 ^ len - 1) * 2 ^ (13 - len)

/-- `match` of a codeword of a length and a pattern (R64). -/
def windowMatch (len pattern : Nat) : Nat := pattern * 2 ^ (13 - len)

/-- The codeword of a bank whose length and bits are these, if there is one. -/
def codeAt (c : Color) (len pattern : Nat) : Option Instr :=
  ((codeRows c).find? fun r =>
    r.mask.toNat == windowMask len && r.mtch.toNat == windowMatch len pattern).map (·.instr)

/-- Decode a 13-bit window whose bit 12 is the first bit of a codeword (R64). -/
def decodeWindow (c : Color) (w : BitVec 13) : Except DecodeError Instr :=
  match (codeRows c).find? (fun r => w &&& r.mask == r.mtch) with
  | some r => .ok r.instr
  | none => .error .unassignedCodeword

/-- Read on after `len` bits with value `acc` that are no codeword: one lookup at every length (R73). -/
def decodeFrom (c : Color) : Nat → Nat → List Bool → Except DecodeError (Instr × List Bool)
  | _, _, [] => .error .truncatedCodeword
  | len, acc, b :: rest =>
    match codeAt c (len + 1) (2 * acc + b.toNat) with
    | some i => .ok (i, rest)
    | none =>
      if lmax t4mh c < len + 1 then .error .unassignedCodeword
      else decodeFrom c (len + 1) (2 * acc + b.toNat) rest

/-- Decode the codeword at the head of a bit stream in the bank of a color; the rest of the stream is returned (R73). -/
def decodeBits (c : Color) (bits : List Bool) : Except DecodeError (Instr × List Bool) :=
  decodeFrom c 0 0 bits

/-- The `len` low bits of a pattern, first bit (the most significant) first (R47). -/
def bitsOf : Nat → Nat → List Bool
  | 0, _ => []
  | len + 1, pattern => pattern.testBit len :: bitsOf len pattern

/-- The bits of bytes in the order the host delivers them, bit 7 of each byte first (R47). -/
def bitsOfBytes : List (BitVec 8) → List Bool
  | [] => []
  | x :: xs => bitsOf 8 x.toNat ++ bitsOfBytes xs

/-- Decode the codeword at the head of a byte stream (R47, R73). -/
def decodeBytes (c : Color) (bytes : List (BitVec 8)) : Except DecodeError (Instr × List Bool) :=
  decodeBits c (bitsOfBytes bytes)

/-! ### Host operations -/

/-- The host operations, in the order of their priority (R105). -/
inductive PortOp where
  | reset | start | bit | endData | accept | idle
  deriving DecidableEq, Repr

/-- The instruction of a host operation; `bit_in` is the operand of `Bit` and of no other (R74). -/
def PortOp.instr (bitIn : Bool) : PortOp → Instr
  | .reset => .reset
  | .start => .start
  | .bit => .bit bitIn
  | .endData => .endData
  | .accept => .accept
  | .idle => .idle

/-- One host-operation row of the opcode table: match and mask over `ctl`, and the state it needs (R74). -/
structure PortRow where
  op    : PortOp
  mtch  : BitVec 5
  mask  : BitVec 5
  needs : Option St
  deriving DecidableEq, Repr

/-- The host-operation rows, highest priority first (R74, R105). -/
def portRows : List PortRow :=
  [⟨.reset, 0x10, 0x10, none⟩,
   ⟨.start, 0x08, 0x18, none⟩,
   ⟨.bit, 0x04, 0x1C, some .reading⟩,
   ⟨.endData, 0x02, 0x1E, some .reading⟩,
   ⟨.accept, 0x01, 0x19, some .runComplete⟩,
   ⟨.idle, 0x00, 0x00, none⟩]

/-- `ctl[4:0] = rst ++ start ++ bit_valid ++ bit_end ++ run_ready` (R74). -/
def Ports.ctl (p : Ports) : BitVec 5 :=
  BitVec.ofBool p.rst ++ BitVec.ofBool p.start ++ BitVec.ofBool p.bitValid ++ BitVec.ofBool p.bitEnd ++
    BitVec.ofBool p.runReady

/-- The operation of a cycle, in the order of priority of R105. -/
def selectOp (st : St) (p : Ports) : PortOp :=
  if p.rst then .reset
  else if p.start then .start
  else if st = .reading ∧ p.bitValid then .bit
  else if st = .reading ∧ p.bitEnd then .endData
  else if st = .runComplete ∧ p.runReady then .accept
  else .idle

/-- A port word: `ctl` in bits 4..0 as the table numbers them, `bit_in` in bit 5 (log entry 21). -/
def portsOfWord (w : BitVec 8) : Ports :=
  { rst := w.getLsbD 4, start := w.getLsbD 3, bitValid := w.getLsbD 2, bitEnd := w.getLsbD 1,
    runReady := w.getLsbD 0, bitIn := w.getLsbD 5 }

/-- The operation a control vector asks for, with the state it needs: the first row whose pattern it has (R74). -/
def requestOf (p : Ports) : PortRow :=
  (portRows.find? (fun r => p.ctl &&& r.mask == r.mtch)).getD ⟨.idle, 0, 0, none⟩

/-- Decode a port word without regard to `st`: the operation it asks for. -/
def decodePort (w : BitVec 8) : Except DecodeError Instr :=
  if 64 ≤ w.toNat then .error .portWordTooLarge
  else .ok ((requestOf (portsOfWord w)).op.instr (portsOfWord w).bitIn)

/-- The decoder over table words, whose codewords are read in the bank of a color: at most 8 bits are a port word, more
are a 13-bit window (the `CW` rows of the table have 13 bits, R64, the `PORT` rows 5, R74). -/
def decodeWordIn (c : Color) (nbits w : Nat) : Option Instr :=
  if 2 ^ nbits ≤ w then none
  else if nbits ≤ 8 then (decodePort (BitVec.ofNat 8 w)).toOption
  else if 2 ^ 13 ≤ w then none
  else (decodeWindow c (BitVec.ofNat 13 w)).toOption

/-- The instruction of a table word, read in the bank of the color after reset, `WHITE` (log entry 5). -/
def decodeTableWord (nbits w : Nat) : Option Instr := decodeWordIn .white nbits w

/-! ### The encoder -/

/-- The encoding of an instruction: a codeword of a bank, or a port word. -/
inductive Encoding where
  | code (cw : Codeword)
  | port (w : BitVec 8)
  deriving DecidableEq, Repr

/-- The encoding of every instruction: the codewords of R66 to R71; the port words of R74, their don't-care bits 0. -/
def Instr.encoding : Instr → Encoding
  | .wT0 => .code ⟨.white, 8, 0x035⟩
  | .wT1 => .code ⟨.white, 6, 0x007⟩
  | .wT2 => .code ⟨.white, 4, 0x007⟩
  | .wT3 => .code ⟨.white, 4, 0x008⟩
  | .wT4 => .code ⟨.white, 4, 0x00B⟩
  | .wT5 => .code ⟨.white, 4, 0x00C⟩
  | .wT6 => .code ⟨.white, 4, 0x00E⟩
  | .wT7 => .code ⟨.white, 4, 0x00F⟩
  | .wT8 => .code ⟨.white, 5, 0x013⟩
  | .wT9 => .code ⟨.white, 5, 0x014⟩
  | .wT10 => .code ⟨.white, 5, 0x007⟩
  | .wT11 => .code ⟨.white, 5, 0x008⟩
  | .wT12 => .code ⟨.white, 6, 0x008⟩
  | .wT13 => .code ⟨.white, 6, 0x003⟩
  | .wT14 => .code ⟨.white, 6, 0x034⟩
  | .wT15 => .code ⟨.white, 6, 0x035⟩
  | .wT16 => .code ⟨.white, 6, 0x02A⟩
  | .wT17 => .code ⟨.white, 6, 0x02B⟩
  | .wT18 => .code ⟨.white, 7, 0x027⟩
  | .wT19 => .code ⟨.white, 7, 0x00C⟩
  | .wT20 => .code ⟨.white, 7, 0x008⟩
  | .wT21 => .code ⟨.white, 7, 0x017⟩
  | .wT22 => .code ⟨.white, 7, 0x003⟩
  | .wT23 => .code ⟨.white, 7, 0x004⟩
  | .wT24 => .code ⟨.white, 7, 0x028⟩
  | .wT25 => .code ⟨.white, 7, 0x02B⟩
  | .wT26 => .code ⟨.white, 7, 0x013⟩
  | .wT27 => .code ⟨.white, 7, 0x024⟩
  | .wT28 => .code ⟨.white, 7, 0x018⟩
  | .wT29 => .code ⟨.white, 8, 0x002⟩
  | .wT30 => .code ⟨.white, 8, 0x003⟩
  | .wT31 => .code ⟨.white, 8, 0x01A⟩
  | .wT32 => .code ⟨.white, 8, 0x01B⟩
  | .wT33 => .code ⟨.white, 8, 0x012⟩
  | .wT34 => .code ⟨.white, 8, 0x013⟩
  | .wT35 => .code ⟨.white, 8, 0x014⟩
  | .wT36 => .code ⟨.white, 8, 0x015⟩
  | .wT37 => .code ⟨.white, 8, 0x016⟩
  | .wT38 => .code ⟨.white, 8, 0x017⟩
  | .wT39 => .code ⟨.white, 8, 0x028⟩
  | .wT40 => .code ⟨.white, 8, 0x029⟩
  | .wT41 => .code ⟨.white, 8, 0x02A⟩
  | .wT42 => .code ⟨.white, 8, 0x02B⟩
  | .wT43 => .code ⟨.white, 8, 0x02C⟩
  | .wT44 => .code ⟨.white, 8, 0x02D⟩
  | .wT45 => .code ⟨.white, 8, 0x004⟩
  | .wT46 => .code ⟨.white, 8, 0x005⟩
  | .wT47 => .code ⟨.white, 8, 0x00A⟩
  | .wT48 => .code ⟨.white, 8, 0x00B⟩
  | .wT49 => .code ⟨.white, 8, 0x052⟩
  | .wT50 => .code ⟨.white, 8, 0x053⟩
  | .wT51 => .code ⟨.white, 8, 0x054⟩
  | .wT52 => .code ⟨.white, 8, 0x055⟩
  | .wT53 => .code ⟨.white, 8, 0x024⟩
  | .wT54 => .code ⟨.white, 8, 0x025⟩
  | .wT55 => .code ⟨.white, 8, 0x058⟩
  | .wT56 => .code ⟨.white, 8, 0x059⟩
  | .wT57 => .code ⟨.white, 8, 0x05A⟩
  | .wT58 => .code ⟨.white, 8, 0x05B⟩
  | .wT59 => .code ⟨.white, 8, 0x04A⟩
  | .wT60 => .code ⟨.white, 8, 0x04B⟩
  | .wT61 => .code ⟨.white, 8, 0x032⟩
  | .wT62 => .code ⟨.white, 8, 0x033⟩
  | .wT63 => .code ⟨.white, 8, 0x034⟩
  | .wM64 => .code ⟨.white, 5, 0x01B⟩
  | .wM128 => .code ⟨.white, 5, 0x012⟩
  | .wM192 => .code ⟨.white, 6, 0x017⟩
  | .wM256 => .code ⟨.white, 7, 0x037⟩
  | .wM320 => .code ⟨.white, 8, 0x036⟩
  | .wM384 => .code ⟨.white, 8, 0x037⟩
  | .wM448 => .code ⟨.white, 8, 0x064⟩
  | .wM512 => .code ⟨.white, 8, 0x065⟩
  | .wM576 => .code ⟨.white, 8, 0x068⟩
  | .wM640 => .code ⟨.white, 8, 0x067⟩
  | .wM704 => .code ⟨.white, 9, 0x0CC⟩
  | .wM768 => .code ⟨.white, 9, 0x0CD⟩
  | .wM832 => .code ⟨.white, 9, 0x0D2⟩
  | .wM896 => .code ⟨.white, 9, 0x0D3⟩
  | .wM960 => .code ⟨.white, 9, 0x0D4⟩
  | .wM1024 => .code ⟨.white, 9, 0x0D5⟩
  | .wM1088 => .code ⟨.white, 9, 0x0D6⟩
  | .wM1152 => .code ⟨.white, 9, 0x0D7⟩
  | .wM1216 => .code ⟨.white, 9, 0x0D8⟩
  | .wM1280 => .code ⟨.white, 9, 0x0D9⟩
  | .wM1344 => .code ⟨.white, 9, 0x0DA⟩
  | .wM1408 => .code ⟨.white, 9, 0x0DB⟩
  | .wM1472 => .code ⟨.white, 9, 0x098⟩
  | .wM1536 => .code ⟨.white, 9, 0x099⟩
  | .wM1600 => .code ⟨.white, 9, 0x09A⟩
  | .wM1664 => .code ⟨.white, 6, 0x018⟩
  | .wM1728 => .code ⟨.white, 9, 0x09B⟩
  | .wX1792 => .code ⟨.white, 11, 0x008⟩
  | .wX1856 => .code ⟨.white, 11, 0x00C⟩
  | .wX1920 => .code ⟨.white, 11, 0x00D⟩
  | .wX1984 => .code ⟨.white, 12, 0x012⟩
  | .wX2048 => .code ⟨.white, 12, 0x013⟩
  | .wX2112 => .code ⟨.white, 12, 0x014⟩
  | .wX2176 => .code ⟨.white, 12, 0x015⟩
  | .wX2240 => .code ⟨.white, 12, 0x016⟩
  | .wX2304 => .code ⟨.white, 12, 0x017⟩
  | .wX2368 => .code ⟨.white, 12, 0x01C⟩
  | .wX2432 => .code ⟨.white, 12, 0x01D⟩
  | .wX2496 => .code ⟨.white, 12, 0x01E⟩
  | .wX2560 => .code ⟨.white, 12, 0x01F⟩
  | .bT0 => .code ⟨.black, 10, 0x037⟩
  | .bT1 => .code ⟨.black, 3, 0x002⟩
  | .bT2 => .code ⟨.black, 2, 0x003⟩
  | .bT3 => .code ⟨.black, 2, 0x002⟩
  | .bT4 => .code ⟨.black, 3, 0x003⟩
  | .bT5 => .code ⟨.black, 4, 0x003⟩
  | .bT6 => .code ⟨.black, 4, 0x002⟩
  | .bT7 => .code ⟨.black, 5, 0x003⟩
  | .bT8 => .code ⟨.black, 6, 0x005⟩
  | .bT9 => .code ⟨.black, 6, 0x004⟩
  | .bT10 => .code ⟨.black, 7, 0x004⟩
  | .bT11 => .code ⟨.black, 7, 0x005⟩
  | .bT12 => .code ⟨.black, 7, 0x007⟩
  | .bT13 => .code ⟨.black, 8, 0x004⟩
  | .bT14 => .code ⟨.black, 8, 0x007⟩
  | .bT15 => .code ⟨.black, 9, 0x018⟩
  | .bT16 => .code ⟨.black, 10, 0x017⟩
  | .bT17 => .code ⟨.black, 10, 0x018⟩
  | .bT18 => .code ⟨.black, 10, 0x008⟩
  | .bT19 => .code ⟨.black, 11, 0x067⟩
  | .bT20 => .code ⟨.black, 11, 0x068⟩
  | .bT21 => .code ⟨.black, 11, 0x06C⟩
  | .bT22 => .code ⟨.black, 11, 0x037⟩
  | .bT23 => .code ⟨.black, 11, 0x028⟩
  | .bT24 => .code ⟨.black, 11, 0x017⟩
  | .bT25 => .code ⟨.black, 11, 0x018⟩
  | .bT26 => .code ⟨.black, 12, 0x0CA⟩
  | .bT27 => .code ⟨.black, 12, 0x0CB⟩
  | .bT28 => .code ⟨.black, 12, 0x0CC⟩
  | .bT29 => .code ⟨.black, 12, 0x0CD⟩
  | .bT30 => .code ⟨.black, 12, 0x068⟩
  | .bT31 => .code ⟨.black, 12, 0x069⟩
  | .bT32 => .code ⟨.black, 12, 0x06A⟩
  | .bT33 => .code ⟨.black, 12, 0x06B⟩
  | .bT34 => .code ⟨.black, 12, 0x0D2⟩
  | .bT35 => .code ⟨.black, 12, 0x0D3⟩
  | .bT36 => .code ⟨.black, 12, 0x0D4⟩
  | .bT37 => .code ⟨.black, 12, 0x0D5⟩
  | .bT38 => .code ⟨.black, 12, 0x0D6⟩
  | .bT39 => .code ⟨.black, 12, 0x0D7⟩
  | .bT40 => .code ⟨.black, 12, 0x06C⟩
  | .bT41 => .code ⟨.black, 12, 0x06D⟩
  | .bT42 => .code ⟨.black, 12, 0x0DA⟩
  | .bT43 => .code ⟨.black, 12, 0x0DB⟩
  | .bT44 => .code ⟨.black, 12, 0x054⟩
  | .bT45 => .code ⟨.black, 12, 0x055⟩
  | .bT46 => .code ⟨.black, 12, 0x056⟩
  | .bT47 => .code ⟨.black, 12, 0x057⟩
  | .bT48 => .code ⟨.black, 12, 0x064⟩
  | .bT49 => .code ⟨.black, 12, 0x065⟩
  | .bT50 => .code ⟨.black, 12, 0x052⟩
  | .bT51 => .code ⟨.black, 12, 0x053⟩
  | .bT52 => .code ⟨.black, 12, 0x024⟩
  | .bT53 => .code ⟨.black, 12, 0x037⟩
  | .bT54 => .code ⟨.black, 12, 0x038⟩
  | .bT55 => .code ⟨.black, 12, 0x027⟩
  | .bT56 => .code ⟨.black, 12, 0x028⟩
  | .bT57 => .code ⟨.black, 12, 0x058⟩
  | .bT58 => .code ⟨.black, 12, 0x059⟩
  | .bT59 => .code ⟨.black, 12, 0x02B⟩
  | .bT60 => .code ⟨.black, 12, 0x02C⟩
  | .bT61 => .code ⟨.black, 12, 0x05A⟩
  | .bT62 => .code ⟨.black, 12, 0x066⟩
  | .bT63 => .code ⟨.black, 12, 0x067⟩
  | .bM64 => .code ⟨.black, 10, 0x00F⟩
  | .bM128 => .code ⟨.black, 12, 0x0C8⟩
  | .bM192 => .code ⟨.black, 12, 0x0C9⟩
  | .bM256 => .code ⟨.black, 12, 0x05B⟩
  | .bM320 => .code ⟨.black, 12, 0x033⟩
  | .bM384 => .code ⟨.black, 12, 0x034⟩
  | .bM448 => .code ⟨.black, 12, 0x035⟩
  | .bM512 => .code ⟨.black, 13, 0x06C⟩
  | .bM576 => .code ⟨.black, 13, 0x06D⟩
  | .bM640 => .code ⟨.black, 13, 0x04A⟩
  | .bM704 => .code ⟨.black, 13, 0x04B⟩
  | .bM768 => .code ⟨.black, 13, 0x04C⟩
  | .bM832 => .code ⟨.black, 13, 0x04D⟩
  | .bM896 => .code ⟨.black, 13, 0x072⟩
  | .bM960 => .code ⟨.black, 13, 0x073⟩
  | .bM1024 => .code ⟨.black, 13, 0x074⟩
  | .bM1088 => .code ⟨.black, 13, 0x075⟩
  | .bM1152 => .code ⟨.black, 13, 0x076⟩
  | .bM1216 => .code ⟨.black, 13, 0x077⟩
  | .bM1280 => .code ⟨.black, 13, 0x052⟩
  | .bM1344 => .code ⟨.black, 13, 0x053⟩
  | .bM1408 => .code ⟨.black, 13, 0x054⟩
  | .bM1472 => .code ⟨.black, 13, 0x055⟩
  | .bM1536 => .code ⟨.black, 13, 0x05A⟩
  | .bM1600 => .code ⟨.black, 13, 0x05B⟩
  | .bM1664 => .code ⟨.black, 13, 0x064⟩
  | .bM1728 => .code ⟨.black, 13, 0x065⟩
  | .bX1792 => .code ⟨.black, 11, 0x008⟩
  | .bX1856 => .code ⟨.black, 11, 0x00C⟩
  | .bX1920 => .code ⟨.black, 11, 0x00D⟩
  | .bX1984 => .code ⟨.black, 12, 0x012⟩
  | .bX2048 => .code ⟨.black, 12, 0x013⟩
  | .bX2112 => .code ⟨.black, 12, 0x014⟩
  | .bX2176 => .code ⟨.black, 12, 0x015⟩
  | .bX2240 => .code ⟨.black, 12, 0x016⟩
  | .bX2304 => .code ⟨.black, 12, 0x017⟩
  | .bX2368 => .code ⟨.black, 12, 0x01C⟩
  | .bX2432 => .code ⟨.black, 12, 0x01D⟩
  | .bX2496 => .code ⟨.black, 12, 0x01E⟩
  | .bX2560 => .code ⟨.black, 12, 0x01F⟩
  | .wEol => .code ⟨.white, 12, 0x001⟩
  | .bEol => .code ⟨.black, 12, 0x001⟩
  | .reset => .port 0x10
  | .start => .port 0x08
  | .bit b => .port (if b then 0x24 else 0x04)
  | .endData => .port 0x02
  | .accept => .port 0x01
  | .idle => .port 0x00

/-- The codeword an instruction stands for; a host operation has none. -/
def Instr.codeword (i : Instr) : Option Codeword :=
  match i.encoding with
  | .code cw => some cw
  | .port _ => none

/-- The bits of a codeword in the order of delivery (R47, R60). -/
def Codeword.bits (cw : Codeword) : List Bool := bitsOf cw.len cw.pattern.toNat

/-- Encode: the bits the host delivers for a codeword; a host operation is no bits of the stream. -/
def encodeBits (i : Instr) : List Bool := (i.codeword.map Codeword.bits).getD []

/-- Encode: the table word of an instruction, as its number of bits in whole bytes and its value. -/
def encodeWord (i : Instr) : Nat × Nat :=
  match i.encoding with
  | .code cw => (16, windowMatch cw.len cw.pattern.toNat)
  | .port w => (8, w.toNat)

end Sys2Proof
end

