-- ==== Sys2Proof/Machine/State.lean ====
section
/-! DEFINITION. The state of the machine: the eight registers of `huffman_decoder` (R20 to R26) and the host agent's side
of the interface (R3, R106, R107). Plain data; `State.reset` is R32's table. -/

namespace Sys2Proof.Machine

/-- What the host does in one cycle (R74, R106): the control inputs, and where it repositions its bit source. The data
input `bit_in` is not here: it is the first bit of the source that has not been consumed, so that it is stable until it
is (R106, R145; log entry 2). -/
structure HostMove where
  rst       : Bool
  start     : Bool
  bitValid  : Bool
  bitEnd    : Bool
  runReady  : Bool
  /-- The bits of the next line, where the host positions its source anew (R106 "line boundary", "error"). It counts
  in a `Reset` or `Start` cycle in which the host offers no bit, and in no other (log entry 3). -/
  newSource : Option (List Bool)
  deriving DecidableEq, Repr

/-- A cycle in which the host drives nothing: every control input 0 (R104). -/
def HostMove.quiet : HostMove :=
  { rst := false, start := false, bitValid := false, bitEnd := false, runReady := false, newSource := none }

/-- The machine. -/
structure State where
  /-- `st`, the state-machine state (R20). -/
  st        : St
  /-- `color`, the bank of every lookup (R21). -/
  color     : Color
  /-- `run_acc`, the sum of the makeup lengths of the run being decoded (R22). -/
  runAcc    : RunLen
  /-- `code_acc`, the bits of the codeword being matched, right-justified (R23). -/
  codeAcc   : CodeAcc
  /-- `code_len`, how many bits of it have been consumed (R24). -/
  codeLen   : CodeLen
  /-- `out_color`, the color of the held run (R25). -/
  outColor  : Color
  /-- `out_len`, the length of the held run (R25). -/
  outLen    : RunLen
  /-- `err_code` (R26). -/
  errCode   : ErrCode
  /-- The runs the host has taken by `Accept` since the last `Start` or `Reset`, oldest first (R107). -/
  delivered : List Run
  /-- The bits of the bit source that have not been consumed, the next one first (R30, R106). -/
  source    : List Bool
  /-- The host's count of the bits consumed (R105, R127; log entry 14). -/
  consumed  : Nat
  /-- The host's moves in the cycles to come, the next one first; after the last one the host is quiet (log entry 2). -/
  script    : List HostMove
  /-- `bit_end` was 1 in the last cycle, which was no cycle of `Start` or `Reset`: the host keeps it at 1 until `done`
  (R106; log entry 20). -/
  endHeld   : Bool
  deriving DecidableEq, Repr

/-- Reasons for which the machine stops with a fault. There are none: a runtime error of this hardware is the state
`ERROR`, a next state (R121), and no operation reads anything that may be absent (log entry 16). -/
inductive Fault where
  deriving DecidableEq, Repr

/-- Reasons for which the model has no meaning. -/
inductive Refusal where
  /-- The arm of an instruction that has no meaning yet; raised by `exec` alone. Safe. No arm raises it. -/
  | notModelled (mnemonic : String)
  /-- `MalformedTable` (R125): a configuration that fails R65 is not built; raised by `admitTable` when a table is
  chosen, by no step. Safe. -/
  | malformedTable
  deriving DecidableEq, Repr

/-- What a step or an instruction answers. -/
abbrev Result := Host.Outcome State Fault Refusal

/-- The state right after `Reset`: R32's table; nothing delivered, an empty source, a quiet host. -/
def State.reset : State :=
  { st := .reading, color := .white, runAcc := 0, codeAcc := 0, codeLen := 0, outColor := .white, outLen := 0,
    errCode := .none, delivered := [], source := [], consumed := 0, script := [], endHeld := false }

end Sys2Proof.Machine
end

