-- ==== Sys2Proof/Machine/Flags.lean ====
section
/-! DEFINITION. The outputs of `huffman_decoder`, functions of the registers alone (R28): its only flags (R31). And the
checked sum of run lengths (R95), the one flag computation of its arithmetic. -/

namespace Sys2Proof.Machine

/-- The 3-bit encoding of `st` (R20). -/
def stCode : St → BitVec 3
  | .reading => 0
  | .runComplete => 1
  | .endOfLine => 2
  | .error => 3
  | .endOfData => 4
  | .unused5 => 5
  | .unused6 => 6
  | .unused7 => 7

/-- The 2-bit encoding of `err_code` (R26, R120). -/
def errCodeBits : ErrCode → BitVec 2
  | .none => 0
  | .invalidCodeword => 1
  | .unexpectedEndOfData => 2
  | .runOverflow => 3

/-- `WHITE = 0`, `BLACK = 1` (R8). -/
def colorBit : Color → BitVec 1
  | .white => 0
  | .black => 1

/-- `~c`, the other color (R8). -/
def otherColor : Color → Color
  | .white => .black
  | .black => .white

/-- `st` is a terminal state (R20, R107). -/
def isTerminal (st : St) : Bool := st == .endOfLine || st == .error || st == .endOfData

/-- The outputs of one cycle (R28), and the LUT's constant outputs (R44, R133). -/
structure Outputs where
  bitReady   : Bool
  runValid   : Bool
  runColor   : BitVec 1
  runLen     : RunLen
  eol        : Bool
  err        : Bool
  errCode    : BitVec 2
  eod        : Bool
  done       : Bool
  dbgState   : BitVec 3
  dbgColor   : BitVec 1
  dbgRunAcc  : RunLen
  dbgCodeAcc : CodeAcc
  dbgCodeLen : CodeLen
  lmaxW      : BitVec 4
  lmaxB      : BitVec 4
  deriving DecidableEq, Repr

/-- The table of R28. It gives `err_code` as the register in every state, the unused codes of `st` too, where R34 asks that
every status output be 0: that `err_code` is not among them is the model's choice (log entry 23). -/
def State.outputs (s : State) : Outputs :=
  { bitReady := s.st == .reading
    runValid := s.st == .runComplete
    runColor := colorBit s.outColor
    runLen := s.outLen
    eol := s.st == .endOfLine
    err := s.st == .error
    errCode := errCodeBits s.errCode
    eod := s.st == .endOfData
    done := isTerminal s.st
    dbgState := stCode s.st
    dbgColor := colorBit s.color
    dbgRunAcc := s.runAcc
    dbgCodeAcc := s.codeAcc
    dbgCodeLen := s.codeLen
    lmaxW := BitVec.ofNat 4 (lmax t4mh .white)
    lmaxB := BitVec.ofNat 4 (lmax t4mh .black) }

/-- The checked sum of R90, R91 and R95 for a register of any width `w` (R6): `none` when the exact sum does not fit,
which is `RunOverflow` (R124); it never wraps. -/
def checkedAdd (w : Nat) (acc : BitVec w) (value : Nat) : Option (BitVec w) :=
  if 2 ^ w ≤ acc.toNat + value then none else some (BitVec.ofNat w (acc.toNat + value))

end Sys2Proof.Machine
end

