-- ==== Sys2Proof/Machine/Operands.lean ====
section
/-! DEFINITION. The operands of a `Bit` event and of a codeword: the shifted accumulator (R81), the new length, and, for a
codeword, whether the decoder is in the course of reading it and what the accumulator holds at its last bit. -/

namespace Sys2Proof.Machine

/-- `acc1 = code_acc[12:0] ++ b` (R81). -/
def shiftIn (acc : CodeAcc) (b : Bool) : CodeAcc := acc.extractLsb' 0 13 ++ BitVec.ofBool b

/-- `len1 = code_len + 1`, a natural number (R80). -/
def nextLen (s : State) : Nat := s.codeLen.toNat + 1

/-- A length as `code_len` stores it. A length that does not fit (16, from the unreachable `code_len = 15`) leaves a
free value (log entry 7). -/
def storedLen (len : Nat) (acc : CodeAcc) : CodeLen :=
  if len < 2 ^ Config.lenW then BitVec.ofNat Config.lenW len else Config.codeLenBeyond acc

/-- The decoder reads, in the bank of this codeword, and the bits it holds are none or a first part of the codeword:
what it needs for the rest of the codeword's bits to complete the codeword (R85). Only the `code_len` low bits of
`code_acc` are compared, as `LutRead` compares them (R43). -/
def State.awaits (s : State) (cw : Codeword) : Bool :=
  s.st == .reading && s.color == cw.color && s.codeLen.toNat < cw.len &&
    s.codeAcc.toNat % 2 ^ s.codeLen.toNat == cw.pattern.toNat / 2 ^ (cw.len - s.codeLen.toNat)

/-- How many bits of an awaited codeword are still to come. -/
def State.bitsLeft (s : State) (cw : Codeword) : Nat := cw.len - s.codeLen.toNat

/-- `acc1` at the last bit of an awaited codeword: the bits held, shifted up by the bits left, which enter below (R81).
Where `code_acc < 2^code_len` (R27 (a)) it is the codeword's pattern. -/
def State.accAtEnd (s : State) (cw : Codeword) : CodeAcc :=
  BitVec.ofNat Config.codeW
    (s.codeAcc.toNat * 2 ^ s.bitsLeft cw + cw.pattern.toNat % 2 ^ s.bitsLeft cw)

end Sys2Proof.Machine
end

