-- ==== Sys2Proof/Machine/Ops.lean ====
section
/-! DEFINITION. The named operations over the registers: error entry, the three codeword actions, one `Bit` event, the
delivery of bits, and the host operations. Each is total; an operation that is not enabled in a state leaves the state
as it is (R100, R104, R105). -/

namespace Sys2Proof.Machine

/-- Choose a configuration `LUT_TABLE`: one that fails R65 is refused (R125). -/
def admitTable (t : LutTable) : Except Refusal LutTable :=
  if t.wellFormed then .ok t else .error .malformedTable

/-- `raise E` (R121): `st` and `err_code`, and nothing else. -/
def raiseError (e : ErrCode) (s : State) : State := { s with st := .error, errCode := e }

/-- `code_acc <- acc1; code_len <- len1` (R83, R84, R90, R91). -/
def holdCode (acc : CodeAcc) (len : Nat) (s : State) : State :=
  { s with codeAcc := acc, codeLen := storedLen len acc }

/-- `code_acc <- 0; code_len <- 0` (R90, R91, R92). -/
def clearCode (s : State) : State := { s with codeAcc := 0, codeLen := 0 }

/-- `Emit(color, n)` (R8, R25). -/
def emitRun (c : Color) (n : RunLen) (s : State) : State := { s with outColor := c, outLen := n }

/-- The end of a terminating action, after `Emit` (R90): the color flips, the accumulators are cleared, and the run is
held until the host accepts it. -/
def finishRun (s : State) : State :=
  { clearCode s with color := otherColor s.color, runAcc := 0, st := .runComplete }

/-- `RunOverflow` (R90, R91, R124): the codeword just matched is held, `run_acc` keeps its value. -/
def raiseOverflow (acc : CodeAcc) (len : Nat) (s : State) : State :=
  raiseError .runOverflow (holdCode acc len s)

/-- `TerminatingAction` for a run length, with the bits and the length of the codeword just completed (R90). -/
def terminatingAction (value : Nat) (acc : CodeAcc) (len : Nat) (s : State) : State :=
  match checkedAdd Config.runW s.runAcc value with
  | none => raiseOverflow acc len s
  | some total => finishRun (emitRun s.color total s)

/-- `MakeupAction` for a run length, with the bits and the length of the codeword just completed (R91). -/
def makeupAction (value : Nat) (acc : CodeAcc) (len : Nat) (s : State) : State :=
  match checkedAdd Config.runW s.runAcc value with
  | none => raiseOverflow acc len s
  | some total => { clearCode s with runAcc := total }

/-- `EolAction` (R92): nothing is emitted, and a pending makeup sum stays in `run_acc`. -/
def eolAction (s : State) : State := { clearCode s with st := .endOfLine }

/-- The action of a hit entry, by its `kind` (R80). An `EMPTY` word never hits (R43). -/
def entryAction (e : LutEntry) (acc : CodeAcc) (len : Nat) (s : State) : State :=
  match e.kind with
  | .term => terminatingAction (runLengthOf e) acc len s
  | .makeup => makeupAction (runLengthOf e) acc len s
  | .eol => eolAction s
  | .empty => s

/-- A miss at a length: continue up to `LMAX(color)` (R83), `InvalidCodeword` beyond it (R84). -/
def missAction (t : LutTable) (acc : CodeAcc) (len : Nat) (s : State) : State :=
  if lmax t s.color < len then raiseError .invalidCodeword (holdCode acc len s)
  else holdCode acc len s

/-- `Bit(b)` in `READING`, over any table (R80). -/
def consumeBit (t : LutTable) (b : Bool) (s : State) : State :=
  match lutRead t s.color (nextLen s) (shiftIn s.codeAcc b) with
  | some e => entryAction e (shiftIn s.codeAcc b) (nextLen s) s
  | none => missAction t (shiftIn s.codeAcc b) (nextLen s) s

/-- A bit offered in any state, over any table: outside `READING` it is not consumed and nothing changes (R80, R143,
R146). -/
def bitEventOver (t : LutTable) (b : Bool) (s : State) : State :=
  if s.st = .reading then consumeBit t b s else s

/-- A bit offered to this hardware, whose table is `T4_MH` (R6, R29). -/
def bitEvent (b : Bool) (s : State) : State := bitEventOver t4mh b s

/-- Bits offered one after another, each of them a `Bit` event (R50). -/
def deliverBits : List Bool → State → State
  | [], s => s
  | b :: bs, s => deliverBits bs (bitEvent b s)

/-- A codeword with its action. While the decoder awaits it, the rest of its bits complete it, and the end of that is its
action at its last bit (R85). In any other state its bits are read as what they are there (R75: the decoder does not
check the name; R80, R143 and R146: outside `READING` no bit is consumed). Log entry 4. -/
def readCodeword (cw : Codeword) (action : CodeAcc → Nat → State → State) (s : State) : State :=
  if s.awaits cw then action (s.accAtEnd cw) cw.len s else deliverBits cw.bits s

/-- The meaning of a terminating codeword of a bank: its bits, its run length (R90). -/
def termCodeword (c : Color) (len : Nat) (pattern : BitVec 13) (value : Nat) (s : State) : Result :=
  .next (readCodeword ⟨c, len, pattern⟩ (terminatingAction value) s)

/-- The meaning of a makeup codeword of a bank: its bits, its run length (R91). -/
def makeupCodeword (c : Color) (len : Nat) (pattern : BitVec 13) (value : Nat) (s : State) : Result :=
  .next (readCodeword ⟨c, len, pattern⟩ (makeupAction value) s)

/-- The meaning of the EOL codeword of a bank (R92). -/
def eolCodeword (c : Color) (len : Nat) (pattern : BitVec 13) (s : State) : Result :=
  .next (readCodeword ⟨c, len, pattern⟩ (fun _ _ => eolAction) s)

/-- Every register to its value of R32, which `Start` and `Reset` share (R101, R140). The runs of a line are counted
anew (R107). -/
def freshLine (s : State) : State :=
  { s with st := .reading, color := .white, runAcc := 0, codeAcc := 0, codeLen := 0, outColor := .white, outLen := 0,
           errCode := .none, delivered := [] }

/-- `Accept` (R102): the host takes the held run; not enabled outside `RUN_COMPLETE`. -/
def acceptRun (s : State) : State :=
  if s.st = .runComplete then
    { s with st := .reading, delivered := s.delivered ++ [⟨s.outColor, s.outLen⟩] }
  else s

/-- `End` (R103): clean between runs, `UnexpectedEndOfData` within a codeword or a run (R123); not enabled outside
`READING`. -/
def endOfSource (s : State) : State :=
  if s.st = .reading then
    if s.codeLen = 0 ∧ s.runAcc = 0 then { s with st := .endOfData }
    else raiseError .unexpectedEndOfData s
  else s

/-- A host operation over any table: the LUT is its parameter (R29). Only `Bit` reads it. -/
def operate (t : LutTable) (op : PortOp) (bitIn : Bool) (s : State) : State :=
  match op with
  | .reset => freshLine s
  | .start => freshLine s
  | .bit => bitEventOver t bitIn s
  | .endData => endOfSource s
  | .accept => acceptRun s
  | .idle => s

end Sys2Proof.Machine
end

