-- ==== Sys2Proof/Machine/BlackMakeup.lean ====
section
/-! DEFINITION. The meanings of the makeup codes of the black bank (R71), action R91. -/

namespace Sys2Proof.Machine

/-- `B.M64`, bits `0000001111`: run length 64 (R91). -/
def execBM64 (s : State) : Result := makeupCodeword .black 10 0x00F 64 s

/-- `B.M128`, bits `000011001000`: run length 128 (R91). -/
def execBM128 (s : State) : Result := makeupCodeword .black 12 0x0C8 128 s

/-- `B.M192`, bits `000011001001`: run length 192 (R91). -/
def execBM192 (s : State) : Result := makeupCodeword .black 12 0x0C9 192 s

/-- `B.M256`, bits `000001011011`: run length 256 (R91). -/
def execBM256 (s : State) : Result := makeupCodeword .black 12 0x05B 256 s

/-- `B.M320`, bits `000000110011`: run length 320 (R91). -/
def execBM320 (s : State) : Result := makeupCodeword .black 12 0x033 320 s

/-- `B.M384`, bits `000000110100`: run length 384 (R91). -/
def execBM384 (s : State) : Result := makeupCodeword .black 12 0x034 384 s

/-- `B.M448`, bits `000000110101`: run length 448 (R91). -/
def execBM448 (s : State) : Result := makeupCodeword .black 12 0x035 448 s

/-- `B.M512`, bits `0000001101100`: run length 512 (R91). -/
def execBM512 (s : State) : Result := makeupCodeword .black 13 0x06C 512 s

/-- `B.M576`, bits `0000001101101`: run length 576 (R91). -/
def execBM576 (s : State) : Result := makeupCodeword .black 13 0x06D 576 s

/-- `B.M640`, bits `0000001001010`: run length 640 (R91). -/
def execBM640 (s : State) : Result := makeupCodeword .black 13 0x04A 640 s

/-- `B.M704`, bits `0000001001011`: run length 704 (R91). -/
def execBM704 (s : State) : Result := makeupCodeword .black 13 0x04B 704 s

/-- `B.M768`, bits `0000001001100`: run length 768 (R91). -/
def execBM768 (s : State) : Result := makeupCodeword .black 13 0x04C 768 s

/-- `B.M832`, bits `0000001001101`: run length 832 (R91). -/
def execBM832 (s : State) : Result := makeupCodeword .black 13 0x04D 832 s

/-- `B.M896`, bits `0000001110010`: run length 896 (R91). -/
def execBM896 (s : State) : Result := makeupCodeword .black 13 0x072 896 s

/-- `B.M960`, bits `0000001110011`: run length 960 (R91). -/
def execBM960 (s : State) : Result := makeupCodeword .black 13 0x073 960 s

/-- `B.M1024`, bits `0000001110100`: run length 1024 (R91). -/
def execBM1024 (s : State) : Result := makeupCodeword .black 13 0x074 1024 s

/-- `B.M1088`, bits `0000001110101`: run length 1088 (R91). -/
def execBM1088 (s : State) : Result := makeupCodeword .black 13 0x075 1088 s

/-- `B.M1152`, bits `0000001110110`: run length 1152 (R91). -/
def execBM1152 (s : State) : Result := makeupCodeword .black 13 0x076 1152 s

/-- `B.M1216`, bits `0000001110111`: run length 1216 (R91). -/
def execBM1216 (s : State) : Result := makeupCodeword .black 13 0x077 1216 s

/-- `B.M1280`, bits `0000001010010`: run length 1280 (R91). -/
def execBM1280 (s : State) : Result := makeupCodeword .black 13 0x052 1280 s

/-- `B.M1344`, bits `0000001010011`: run length 1344 (R91). -/
def execBM1344 (s : State) : Result := makeupCodeword .black 13 0x053 1344 s

/-- `B.M1408`, bits `0000001010100`: run length 1408 (R91). -/
def execBM1408 (s : State) : Result := makeupCodeword .black 13 0x054 1408 s

/-- `B.M1472`, bits `0000001010101`: run length 1472 (R91). -/
def execBM1472 (s : State) : Result := makeupCodeword .black 13 0x055 1472 s

/-- `B.M1536`, bits `0000001011010`: run length 1536 (R91). -/
def execBM1536 (s : State) : Result := makeupCodeword .black 13 0x05A 1536 s

/-- `B.M1600`, bits `0000001011011`: run length 1600 (R91). -/
def execBM1600 (s : State) : Result := makeupCodeword .black 13 0x05B 1600 s

/-- `B.M1664`, bits `0000001100100`: run length 1664 (R91). -/
def execBM1664 (s : State) : Result := makeupCodeword .black 13 0x064 1664 s

/-- `B.M1728`, bits `0000001100101`: run length 1728 (R91). -/
def execBM1728 (s : State) : Result := makeupCodeword .black 13 0x065 1728 s

end Sys2Proof.Machine
end

