-- ==== Sys2Proof/Machine/BlackShared.lean ====
section
/-! DEFINITION. The meanings of the shared makeup codes read in the black bank (R68), action R91. -/

namespace Sys2Proof.Machine

/-- `B.X1792`, bits `00000001000`: run length 1792 (R91). -/
def execBX1792 (s : State) : Result := makeupCodeword .black 11 0x008 1792 s

/-- `B.X1856`, bits `00000001100`: run length 1856 (R91). -/
def execBX1856 (s : State) : Result := makeupCodeword .black 11 0x00C 1856 s

/-- `B.X1920`, bits `00000001101`: run length 1920 (R91). -/
def execBX1920 (s : State) : Result := makeupCodeword .black 11 0x00D 1920 s

/-- `B.X1984`, bits `000000010010`: run length 1984 (R91). -/
def execBX1984 (s : State) : Result := makeupCodeword .black 12 0x012 1984 s

/-- `B.X2048`, bits `000000010011`: run length 2048 (R91). -/
def execBX2048 (s : State) : Result := makeupCodeword .black 12 0x013 2048 s

/-- `B.X2112`, bits `000000010100`: run length 2112 (R91). -/
def execBX2112 (s : State) : Result := makeupCodeword .black 12 0x014 2112 s

/-- `B.X2176`, bits `000000010101`: run length 2176 (R91). -/
def execBX2176 (s : State) : Result := makeupCodeword .black 12 0x015 2176 s

/-- `B.X2240`, bits `000000010110`: run length 2240 (R91). -/
def execBX2240 (s : State) : Result := makeupCodeword .black 12 0x016 2240 s

/-- `B.X2304`, bits `000000010111`: run length 2304 (R91). -/
def execBX2304 (s : State) : Result := makeupCodeword .black 12 0x017 2304 s

/-- `B.X2368`, bits `000000011100`: run length 2368 (R91). -/
def execBX2368 (s : State) : Result := makeupCodeword .black 12 0x01C 2368 s

/-- `B.X2432`, bits `000000011101`: run length 2432 (R91). -/
def execBX2432 (s : State) : Result := makeupCodeword .black 12 0x01D 2432 s

/-- `B.X2496`, bits `000000011110`: run length 2496 (R91). -/
def execBX2496 (s : State) : Result := makeupCodeword .black 12 0x01E 2496 s

/-- `B.X2560`, bits `000000011111`: run length 2560 (R91). -/
def execBX2560 (s : State) : Result := makeupCodeword .black 12 0x01F 2560 s

end Sys2Proof.Machine
end

