-- ==== Sys2Proof/Machine/BlackTerm.lean ====
section
/-! DEFINITION. The meanings of the terminating codes of the black bank (R70), action R90. -/

namespace Sys2Proof.Machine

/-- `B.T0`, bits `0000110111`: run length 0 (R90). -/
def execBT0 (s : State) : Result := termCodeword .black 10 0x037 0 s

/-- `B.T1`, bits `010`: run length 1 (R90). -/
def execBT1 (s : State) : Result := termCodeword .black 3 0x002 1 s

/-- `B.T2`, bits `11`: run length 2 (R90). -/
def execBT2 (s : State) : Result := termCodeword .black 2 0x003 2 s

/-- `B.T3`, bits `10`: run length 3 (R90). -/
def execBT3 (s : State) : Result := termCodeword .black 2 0x002 3 s

/-- `B.T4`, bits `011`: run length 4 (R90). -/
def execBT4 (s : State) : Result := termCodeword .black 3 0x003 4 s

/-- `B.T5`, bits `0011`: run length 5 (R90). -/
def execBT5 (s : State) : Result := termCodeword .black 4 0x003 5 s

/-- `B.T6`, bits `0010`: run length 6 (R90). -/
def execBT6 (s : State) : Result := termCodeword .black 4 0x002 6 s

/-- `B.T7`, bits `00011`: run length 7 (R90). -/
def execBT7 (s : State) : Result := termCodeword .black 5 0x003 7 s

/-- `B.T8`, bits `000101`: run length 8 (R90). -/
def execBT8 (s : State) : Result := termCodeword .black 6 0x005 8 s

/-- `B.T9`, bits `000100`: run length 9 (R90). -/
def execBT9 (s : State) : Result := termCodeword .black 6 0x004 9 s

/-- `B.T10`, bits `0000100`: run length 10 (R90). -/
def execBT10 (s : State) : Result := termCodeword .black 7 0x004 10 s

/-- `B.T11`, bits `0000101`: run length 11 (R90). -/
def execBT11 (s : State) : Result := termCodeword .black 7 0x005 11 s

/-- `B.T12`, bits `0000111`: run length 12 (R90). -/
def execBT12 (s : State) : Result := termCodeword .black 7 0x007 12 s

/-- `B.T13`, bits `00000100`: run length 13 (R90). -/
def execBT13 (s : State) : Result := termCodeword .black 8 0x004 13 s

/-- `B.T14`, bits `00000111`: run length 14 (R90). -/
def execBT14 (s : State) : Result := termCodeword .black 8 0x007 14 s

/-- `B.T15`, bits `000011000`: run length 15 (R90). -/
def execBT15 (s : State) : Result := termCodeword .black 9 0x018 15 s

/-- `B.T16`, bits `0000010111`: run length 16 (R90). -/
def execBT16 (s : State) : Result := termCodeword .black 10 0x017 16 s

/-- `B.T17`, bits `0000011000`: run length 17 (R90). -/
def execBT17 (s : State) : Result := termCodeword .black 10 0x018 17 s

/-- `B.T18`, bits `0000001000`: run length 18 (R90). -/
def execBT18 (s : State) : Result := termCodeword .black 10 0x008 18 s

/-- `B.T19`, bits `00001100111`: run length 19 (R90). -/
def execBT19 (s : State) : Result := termCodeword .black 11 0x067 19 s

/-- `B.T20`, bits `00001101000`: run length 20 (R90). -/
def execBT20 (s : State) : Result := termCodeword .black 11 0x068 20 s

/-- `B.T21`, bits `00001101100`: run length 21 (R90). -/
def execBT21 (s : State) : Result := termCodeword .black 11 0x06C 21 s

/-- `B.T22`, bits `00000110111`: run length 22 (R90). -/
def execBT22 (s : State) : Result := termCodeword .black 11 0x037 22 s

/-- `B.T23`, bits `00000101000`: run length 23 (R90). -/
def execBT23 (s : State) : Result := termCodeword .black 11 0x028 23 s

/-- `B.T24`, bits `00000010111`: run length 24 (R90). -/
def execBT24 (s : State) : Result := termCodeword .black 11 0x017 24 s

/-- `B.T25`, bits `00000011000`: run length 25 (R90). -/
def execBT25 (s : State) : Result := termCodeword .black 11 0x018 25 s

/-- `B.T26`, bits `000011001010`: run length 26 (R90). -/
def execBT26 (s : State) : Result := termCodeword .black 12 0x0CA 26 s

/-- `B.T27`, bits `000011001011`: run length 27 (R90). -/
def execBT27 (s : State) : Result := termCodeword .black 12 0x0CB 27 s

/-- `B.T28`, bits `000011001100`: run length 28 (R90). -/
def execBT28 (s : State) : Result := termCodeword .black 12 0x0CC 28 s

/-- `B.T29`, bits `000011001101`: run length 29 (R90). -/
def execBT29 (s : State) : Result := termCodeword .black 12 0x0CD 29 s

/-- `B.T30`, bits `000001101000`: run length 30 (R90). -/
def execBT30 (s : State) : Result := termCodeword .black 12 0x068 30 s

/-- `B.T31`, bits `000001101001`: run length 31 (R90). -/
def execBT31 (s : State) : Result := termCodeword .black 12 0x069 31 s

/-- `B.T32`, bits `000001101010`: run length 32 (R90). -/
def execBT32 (s : State) : Result := termCodeword .black 12 0x06A 32 s

/-- `B.T33`, bits `000001101011`: run length 33 (R90). -/
def execBT33 (s : State) : Result := termCodeword .black 12 0x06B 33 s

/-- `B.T34`, bits `000011010010`: run length 34 (R90). -/
def execBT34 (s : State) : Result := termCodeword .black 12 0x0D2 34 s

/-- `B.T35`, bits `000011010011`: run length 35 (R90). -/
def execBT35 (s : State) : Result := termCodeword .black 12 0x0D3 35 s

/-- `B.T36`, bits `000011010100`: run length 36 (R90). -/
def execBT36 (s : State) : Result := termCodeword .black 12 0x0D4 36 s

/-- `B.T37`, bits `000011010101`: run length 37 (R90). -/
def execBT37 (s : State) : Result := termCodeword .black 12 0x0D5 37 s

/-- `B.T38`, bits `000011010110`: run length 38 (R90). -/
def execBT38 (s : State) : Result := termCodeword .black 12 0x0D6 38 s

/-- `B.T39`, bits `000011010111`: run length 39 (R90). -/
def execBT39 (s : State) : Result := termCodeword .black 12 0x0D7 39 s

/-- `B.T40`, bits `000001101100`: run length 40 (R90). -/
def execBT40 (s : State) : Result := termCodeword .black 12 0x06C 40 s

/-- `B.T41`, bits `000001101101`: run length 41 (R90). -/
def execBT41 (s : State) : Result := termCodeword .black 12 0x06D 41 s

/-- `B.T42`, bits `000011011010`: run length 42 (R90). -/
def execBT42 (s : State) : Result := termCodeword .black 12 0x0DA 42 s

/-- `B.T43`, bits `000011011011`: run length 43 (R90). -/
def execBT43 (s : State) : Result := termCodeword .black 12 0x0DB 43 s

/-- `B.T44`, bits `000001010100`: run length 44 (R90). -/
def execBT44 (s : State) : Result := termCodeword .black 12 0x054 44 s

/-- `B.T45`, bits `000001010101`: run length 45 (R90). -/
def execBT45 (s : State) : Result := termCodeword .black 12 0x055 45 s

/-- `B.T46`, bits `000001010110`: run length 46 (R90). -/
def execBT46 (s : State) : Result := termCodeword .black 12 0x056 46 s

/-- `B.T47`, bits `000001010111`: run length 47 (R90). -/
def execBT47 (s : State) : Result := termCodeword .black 12 0x057 47 s

/-- `B.T48`, bits `000001100100`: run length 48 (R90). -/
def execBT48 (s : State) : Result := termCodeword .black 12 0x064 48 s

/-- `B.T49`, bits `000001100101`: run length 49 (R90). -/
def execBT49 (s : State) : Result := termCodeword .black 12 0x065 49 s

/-- `B.T50`, bits `000001010010`: run length 50 (R90). -/
def execBT50 (s : State) : Result := termCodeword .black 12 0x052 50 s

/-- `B.T51`, bits `000001010011`: run length 51 (R90). -/
def execBT51 (s : State) : Result := termCodeword .black 12 0x053 51 s

/-- `B.T52`, bits `000000100100`: run length 52 (R90). -/
def execBT52 (s : State) : Result := termCodeword .black 12 0x024 52 s

/-- `B.T53`, bits `000000110111`: run length 53 (R90). -/
def execBT53 (s : State) : Result := termCodeword .black 12 0x037 53 s

/-- `B.T54`, bits `000000111000`: run length 54 (R90). -/
def execBT54 (s : State) : Result := termCodeword .black 12 0x038 54 s

/-- `B.T55`, bits `000000100111`: run length 55 (R90). -/
def execBT55 (s : State) : Result := termCodeword .black 12 0x027 55 s

/-- `B.T56`, bits `000000101000`: run length 56 (R90). -/
def execBT56 (s : State) : Result := termCodeword .black 12 0x028 56 s

/-- `B.T57`, bits `000001011000`: run length 57 (R90). -/
def execBT57 (s : State) : Result := termCodeword .black 12 0x058 57 s

/-- `B.T58`, bits `000001011001`: run length 58 (R90). -/
def execBT58 (s : State) : Result := termCodeword .black 12 0x059 58 s

/-- `B.T59`, bits `000000101011`: run length 59 (R90). -/
def execBT59 (s : State) : Result := termCodeword .black 12 0x02B 59 s

/-- `B.T60`, bits `000000101100`: run length 60 (R90). -/
def execBT60 (s : State) : Result := termCodeword .black 12 0x02C 60 s

/-- `B.T61`, bits `000001011010`: run length 61 (R90). -/
def execBT61 (s : State) : Result := termCodeword .black 12 0x05A 61 s

/-- `B.T62`, bits `000001100110`: run length 62 (R90). -/
def execBT62 (s : State) : Result := termCodeword .black 12 0x066 62 s

/-- `B.T63`, bits `000001100111`: run length 63 (R90). -/
def execBT63 (s : State) : Result := termCodeword .black 12 0x067 63 s

end Sys2Proof.Machine
end

