-- ==== Sys2Proof/Machine/Eol.lean ====
section
/-! DEFINITION. The meanings of the EOL codeword of the two banks (R69), action R92. -/

namespace Sys2Proof.Machine

/-- `W.EOL`, bits `000000000001`: the end of the line (R92). -/
def execWEol (s : State) : Result := eolCodeword .white 12 0x001 s

/-- `B.EOL`, bits `000000000001`: the end of the line (R92). -/
def execBEol (s : State) : Result := eolCodeword .black 12 0x001 s

end Sys2Proof.Machine
end

