-- ==== Sys2Proof/Machine/HostOps.lean ====
section
/-! DEFINITION. The meanings of the host operations (R80, R101 to R104, R140). Each is enabled in the states of R100; in
the others it selects no operation, and nothing happens (R74, R104, R105; log entry 15). -/

namespace Sys2Proof.Machine

/-- `Reset` (R140). -/
def execReset (s : State) : Result := .next (freshLine s)

/-- `Start` (R101). -/
def execStart (s : State) : Result := .next (freshLine s)

/-- `Bit(b)` (R80). -/
def execBit (b : Bool) (s : State) : Result := .next (bitEvent b s)

/-- `End` (R103). -/
def execEndData (s : State) : Result := .next (endOfSource s)

/-- `Accept` (R102). -/
def execAccept (s : State) : Result := .next (acceptRun s)

/-- `Idle` (R104). -/
def execIdle (s : State) : Result := .next s

end Sys2Proof.Machine
end

