-- ==== Sys2Proof/Machine/WhiteMakeup.lean ====
section
/-! DEFINITION. The meanings of the makeup codes of the white bank (R67), action R91. -/

namespace Sys2Proof.Machine

/-- `W.M64`, bits `11011`: run length 64 (R91). -/
def execWM64 (s : State) : Result := makeupCodeword .white 5 0x01B 64 s

/-- `W.M128`, bits `10010`: run length 128 (R91). -/
def execWM128 (s : State) : Result := makeupCodeword .white 5 0x012 128 s

/-- `W.M192`, bits `010111`: run length 192 (R91). -/
def execWM192 (s : State) : Result := makeupCodeword .white 6 0x017 192 s

/-- `W.M256`, bits `0110111`: run length 256 (R91). -/
def execWM256 (s : State) : Result := makeupCodeword .white 7 0x037 256 s

/-- `W.M320`, bits `00110110`: run length 320 (R91). -/
def execWM320 (s : State) : Result := makeupCodeword .white 8 0x036 320 s

/-- `W.M384`, bits `00110111`: run length 384 (R91). -/
def execWM384 (s : State) : Result := makeupCodeword .white 8 0x037 384 s

/-- `W.M448`, bits `01100100`: run length 448 (R91). -/
def execWM448 (s : State) : Result := makeupCodeword .white 8 0x064 448 s

/-- `W.M512`, bits `01100101`: run length 512 (R91). -/
def execWM512 (s : State) : Result := makeupCodeword .white 8 0x065 512 s

/-- `W.M576`, bits `01101000`: run length 576 (R91). -/
def execWM576 (s : State) : Result := makeupCodeword .white 8 0x068 576 s

/-- `W.M640`, bits `01100111`: run length 640 (R91). -/
def execWM640 (s : State) : Result := makeupCodeword .white 8 0x067 640 s

/-- `W.M704`, bits `011001100`: run length 704 (R91). -/
def execWM704 (s : State) : Result := makeupCodeword .white 9 0x0CC 704 s

/-- `W.M768`, bits `011001101`: run length 768 (R91). -/
def execWM768 (s : State) : Result := makeupCodeword .white 9 0x0CD 768 s

/-- `W.M832`, bits `011010010`: run length 832 (R91). -/
def execWM832 (s : State) : Result := makeupCodeword .white 9 0x0D2 832 s

/-- `W.M896`, bits `011010011`: run length 896 (R91). -/
def execWM896 (s : State) : Result := makeupCodeword .white 9 0x0D3 896 s

/-- `W.M960`, bits `011010100`: run length 960 (R91). -/
def execWM960 (s : State) : Result := makeupCodeword .white 9 0x0D4 960 s

/-- `W.M1024`, bits `011010101`: run length 1024 (R91). -/
def execWM1024 (s : State) : Result := makeupCodeword .white 9 0x0D5 1024 s

/-- `W.M1088`, bits `011010110`: run length 1088 (R91). -/
def execWM1088 (s : State) : Result := makeupCodeword .white 9 0x0D6 1088 s

/-- `W.M1152`, bits `011010111`: run length 1152 (R91). -/
def execWM1152 (s : State) : Result := makeupCodeword .white 9 0x0D7 1152 s

/-- `W.M1216`, bits `011011000`: run length 1216 (R91). -/
def execWM1216 (s : State) : Result := makeupCodeword .white 9 0x0D8 1216 s

/-- `W.M1280`, bits `011011001`: run length 1280 (R91). -/
def execWM1280 (s : State) : Result := makeupCodeword .white 9 0x0D9 1280 s

/-- `W.M1344`, bits `011011010`: run length 1344 (R91). -/
def execWM1344 (s : State) : Result := makeupCodeword .white 9 0x0DA 1344 s

/-- `W.M1408`, bits `011011011`: run length 1408 (R91). -/
def execWM1408 (s : State) : Result := makeupCodeword .white 9 0x0DB 1408 s

/-- `W.M1472`, bits `010011000`: run length 1472 (R91). -/
def execWM1472 (s : State) : Result := makeupCodeword .white 9 0x098 1472 s

/-- `W.M1536`, bits `010011001`: run length 1536 (R91). -/
def execWM1536 (s : State) : Result := makeupCodeword .white 9 0x099 1536 s

/-- `W.M1600`, bits `010011010`: run length 1600 (R91). -/
def execWM1600 (s : State) : Result := makeupCodeword .white 9 0x09A 1600 s

/-- `W.M1664`, bits `011000`: run length 1664 (R91). -/
def execWM1664 (s : State) : Result := makeupCodeword .white 6 0x018 1664 s

/-- `W.M1728`, bits `010011011`: run length 1728 (R91). -/
def execWM1728 (s : State) : Result := makeupCodeword .white 9 0x09B 1728 s

end Sys2Proof.Machine
end

