-- ==== Sys2Proof/Machine/WhiteShared.lean ====
section
/-! DEFINITION. The meanings of the shared makeup codes read in the white bank (R68), action R91. -/

namespace Sys2Proof.Machine

/-- `W.X1792`, bits `00000001000`: run length 1792 (R91). -/
def execWX1792 (s : State) : Result := makeupCodeword .white 11 0x008 1792 s

/-- `W.X1856`, bits `00000001100`: run length 1856 (R91). -/
def execWX1856 (s : State) : Result := makeupCodeword .white 11 0x00C 1856 s

/-- `W.X1920`, bits `00000001101`: run length 1920 (R91). -/
def execWX1920 (s : State) : Result := makeupCodeword .white 11 0x00D 1920 s

/-- `W.X1984`, bits `000000010010`: run length 1984 (R91). -/
def execWX1984 (s : State) : Result := makeupCodeword .white 12 0x012 1984 s

/-- `W.X2048`, bits `000000010011`: run length 2048 (R91). -/
def execWX2048 (s : State) : Result := makeupCodeword .white 12 0x013 2048 s

/-- `W.X2112`, bits `000000010100`: run length 2112 (R91). -/
def execWX2112 (s : State) : Result := makeupCodeword .white 12 0x014 2112 s

/-- `W.X2176`, bits `000000010101`: run length 2176 (R91). -/
def execWX2176 (s : State) : Result := makeupCodeword .white 12 0x015 2176 s

/-- `W.X2240`, bits `000000010110`: run length 2240 (R91). -/
def execWX2240 (s : State) : Result := makeupCodeword .white 12 0x016 2240 s

/-- `W.X2304`, bits `000000010111`: run length 2304 (R91). -/
def execWX2304 (s : State) : Result := makeupCodeword .white 12 0x017 2304 s

/-- `W.X2368`, bits `000000011100`: run length 2368 (R91). -/
def execWX2368 (s : State) : Result := makeupCodeword .white 12 0x01C 2368 s

/-- `W.X2432`, bits `000000011101`: run length 2432 (R91). -/
def execWX2432 (s : State) : Result := makeupCodeword .white 12 0x01D 2432 s

/-- `W.X2496`, bits `000000011110`: run length 2496 (R91). -/
def execWX2496 (s : State) : Result := makeupCodeword .white 12 0x01E 2496 s

/-- `W.X2560`, bits `000000011111`: run length 2560 (R91). -/
def execWX2560 (s : State) : Result := makeupCodeword .white 12 0x01F 2560 s

end Sys2Proof.Machine
end

