-- ==== Sys2Proof/Machine/WhiteTerm.lean ====
section
/-! DEFINITION. The meanings of the terminating codes of the white bank (R66), action R90. -/

namespace Sys2Proof.Machine

/-- `W.T0`, bits `00110101`: run length 0 (R90). -/
def execWT0 (s : State) : Result := termCodeword .white 8 0x035 0 s

/-- `W.T1`, bits `000111`: run length 1 (R90). -/
def execWT1 (s : State) : Result := termCodeword .white 6 0x007 1 s

/-- `W.T2`, bits `0111`: run length 2 (R90). -/
def execWT2 (s : State) : Result := termCodeword .white 4 0x007 2 s

/-- `W.T3`, bits `1000`: run length 3 (R90). -/
def execWT3 (s : State) : Result := termCodeword .white 4 0x008 3 s

/-- `W.T4`, bits `1011`: run length 4 (R90). -/
def execWT4 (s : State) : Result := termCodeword .white 4 0x00B 4 s

/-- `W.T5`, bits `1100`: run length 5 (R90). -/
def execWT5 (s : State) : Result := termCodeword .white 4 0x00C 5 s

/-- `W.T6`, bits `1110`: run length 6 (R90). -/
def execWT6 (s : State) : Result := termCodeword .white 4 0x00E 6 s

/-- `W.T7`, bits `1111`: run length 7 (R90). -/
def execWT7 (s : State) : Result := termCodeword .white 4 0x00F 7 s

/-- `W.T8`, bits `10011`: run length 8 (R90). -/
def execWT8 (s : State) : Result := termCodeword .white 5 0x013 8 s

/-- `W.T9`, bits `10100`: run length 9 (R90). -/
def execWT9 (s : State) : Result := termCodeword .white 5 0x014 9 s

/-- `W.T10`, bits `00111`: run length 10 (R90). -/
def execWT10 (s : State) : Result := termCodeword .white 5 0x007 10 s

/-- `W.T11`, bits `01000`: run length 11 (R90). -/
def execWT11 (s : State) : Result := termCodeword .white 5 0x008 11 s

/-- `W.T12`, bits `001000`: run length 12 (R90). -/
def execWT12 (s : State) : Result := termCodeword .white 6 0x008 12 s

/-- `W.T13`, bits `000011`: run length 13 (R90). -/
def execWT13 (s : State) : Result := termCodeword .white 6 0x003 13 s

/-- `W.T14`, bits `110100`: run length 14 (R90). -/
def execWT14 (s : State) : Result := termCodeword .white 6 0x034 14 s

/-- `W.T15`, bits `110101`: run length 15 (R90). -/
def execWT15 (s : State) : Result := termCodeword .white 6 0x035 15 s

/-- `W.T16`, bits `101010`: run length 16 (R90). -/
def execWT16 (s : State) : Result := termCodeword .white 6 0x02A 16 s

/-- `W.T17`, bits `101011`: run length 17 (R90). -/
def execWT17 (s : State) : Result := termCodeword .white 6 0x02B 17 s

/-- `W.T18`, bits `0100111`: run length 18 (R90). -/
def execWT18 (s : State) : Result := termCodeword .white 7 0x027 18 s

/-- `W.T19`, bits `0001100`: run length 19 (R90). -/
def execWT19 (s : State) : Result := termCodeword .white 7 0x00C 19 s

/-- `W.T20`, bits `0001000`: run length 20 (R90). -/
def execWT20 (s : State) : Result := termCodeword .white 7 0x008 20 s

/-- `W.T21`, bits `0010111`: run length 21 (R90). -/
def execWT21 (s : State) : Result := termCodeword .white 7 0x017 21 s

/-- `W.T22`, bits `0000011`: run length 22 (R90). -/
def execWT22 (s : State) : Result := termCodeword .white 7 0x003 22 s

/-- `W.T23`, bits `0000100`: run length 23 (R90). -/
def execWT23 (s : State) : Result := termCodeword .white 7 0x004 23 s

/-- `W.T24`, bits `0101000`: run length 24 (R90). -/
def execWT24 (s : State) : Result := termCodeword .white 7 0x028 24 s

/-- `W.T25`, bits `0101011`: run length 25 (R90). -/
def execWT25 (s : State) : Result := termCodeword .white 7 0x02B 25 s

/-- `W.T26`, bits `0010011`: run length 26 (R90). -/
def execWT26 (s : State) : Result := termCodeword .white 7 0x013 26 s

/-- `W.T27`, bits `0100100`: run length 27 (R90). -/
def execWT27 (s : State) : Result := termCodeword .white 7 0x024 27 s

/-- `W.T28`, bits `0011000`: run length 28 (R90). -/
def execWT28 (s : State) : Result := termCodeword .white 7 0x018 28 s

/-- `W.T29`, bits `00000010`: run length 29 (R90). -/
def execWT29 (s : State) : Result := termCodeword .white 8 0x002 29 s

/-- `W.T30`, bits `00000011`: run length 30 (R90). -/
def execWT30 (s : State) : Result := termCodeword .white 8 0x003 30 s

/-- `W.T31`, bits `00011010`: run length 31 (R90). -/
def execWT31 (s : State) : Result := termCodeword .white 8 0x01A 31 s

/-- `W.T32`, bits `00011011`: run length 32 (R90). -/
def execWT32 (s : State) : Result := termCodeword .white 8 0x01B 32 s

/-- `W.T33`, bits `00010010`: run length 33 (R90). -/
def execWT33 (s : State) : Result := termCodeword .white 8 0x012 33 s

/-- `W.T34`, bits `00010011`: run length 34 (R90). -/
def execWT34 (s : State) : Result := termCodeword .white 8 0x013 34 s

/-- `W.T35`, bits `00010100`: run length 35 (R90). -/
def execWT35 (s : State) : Result := termCodeword .white 8 0x014 35 s

/-- `W.T36`, bits `00010101`: run length 36 (R90). -/
def execWT36 (s : State) : Result := termCodeword .white 8 0x015 36 s

/-- `W.T37`, bits `00010110`: run length 37 (R90). -/
def execWT37 (s : State) : Result := termCodeword .white 8 0x016 37 s

/-- `W.T38`, bits `00010111`: run length 38 (R90). -/
def execWT38 (s : State) : Result := termCodeword .white 8 0x017 38 s

/-- `W.T39`, bits `00101000`: run length 39 (R90). -/
def execWT39 (s : State) : Result := termCodeword .white 8 0x028 39 s

/-- `W.T40`, bits `00101001`: run length 40 (R90). -/
def execWT40 (s : State) : Result := termCodeword .white 8 0x029 40 s

/-- `W.T41`, bits `00101010`: run length 41 (R90). -/
def execWT41 (s : State) : Result := termCodeword .white 8 0x02A 41 s

/-- `W.T42`, bits `00101011`: run length 42 (R90). -/
def execWT42 (s : State) : Result := termCodeword .white 8 0x02B 42 s

/-- `W.T43`, bits `00101100`: run length 43 (R90). -/
def execWT43 (s : State) : Result := termCodeword .white 8 0x02C 43 s

/-- `W.T44`, bits `00101101`: run length 44 (R90). -/
def execWT44 (s : State) : Result := termCodeword .white 8 0x02D 44 s

/-- `W.T45`, bits `00000100`: run length 45 (R90). -/
def execWT45 (s : State) : Result := termCodeword .white 8 0x004 45 s

/-- `W.T46`, bits `00000101`: run length 46 (R90). -/
def execWT46 (s : State) : Result := termCodeword .white 8 0x005 46 s

/-- `W.T47`, bits `00001010`: run length 47 (R90). -/
def execWT47 (s : State) : Result := termCodeword .white 8 0x00A 47 s

/-- `W.T48`, bits `00001011`: run length 48 (R90). -/
def execWT48 (s : State) : Result := termCodeword .white 8 0x00B 48 s

/-- `W.T49`, bits `01010010`: run length 49 (R90). -/
def execWT49 (s : State) : Result := termCodeword .white 8 0x052 49 s

/-- `W.T50`, bits `01010011`: run length 50 (R90). -/
def execWT50 (s : State) : Result := termCodeword .white 8 0x053 50 s

/-- `W.T51`, bits `01010100`: run length 51 (R90). -/
def execWT51 (s : State) : Result := termCodeword .white 8 0x054 51 s

/-- `W.T52`, bits `01010101`: run length 52 (R90). -/
def execWT52 (s : State) : Result := termCodeword .white 8 0x055 52 s

/-- `W.T53`, bits `00100100`: run length 53 (R90). -/
def execWT53 (s : State) : Result := termCodeword .white 8 0x024 53 s

/-- `W.T54`, bits `00100101`: run length 54 (R90). -/
def execWT54 (s : State) : Result := termCodeword .white 8 0x025 54 s

/-- `W.T55`, bits `01011000`: run length 55 (R90). -/
def execWT55 (s : State) : Result := termCodeword .white 8 0x058 55 s

/-- `W.T56`, bits `01011001`: run length 56 (R90). -/
def execWT56 (s : State) : Result := termCodeword .white 8 0x059 56 s

/-- `W.T57`, bits `01011010`: run length 57 (R90). -/
def execWT57 (s : State) : Result := termCodeword .white 8 0x05A 57 s

/-- `W.T58`, bits `01011011`: run length 58 (R90). -/
def execWT58 (s : State) : Result := termCodeword .white 8 0x05B 58 s

/-- `W.T59`, bits `01001010`: run length 59 (R90). -/
def execWT59 (s : State) : Result := termCodeword .white 8 0x04A 59 s

/-- `W.T60`, bits `01001011`: run length 60 (R90). -/
def execWT60 (s : State) : Result := termCodeword .white 8 0x04B 60 s

/-- `W.T61`, bits `00110010`: run length 61 (R90). -/
def execWT61 (s : State) : Result := termCodeword .white 8 0x032 61 s

/-- `W.T62`, bits `00110011`: run length 62 (R90). -/
def execWT62 (s : State) : Result := termCodeword .white 8 0x033 62 s

/-- `W.T63`, bits `00110100`: run length 63 (R90). -/
def execWT63 (s : State) : Result := termCodeword .white 8 0x034 63 s

end Sys2Proof.Machine
end

