-- ==== Sys2Proof/Machine/Dispatch.lean ====
section
/-! DEFINITION. One arm for each constructor of `Instr`. -/

namespace Sys2Proof.Machine

def exec (i : Instr) (s : State) : Host.Outcome State Fault Refusal :=
  match i with
  -- White terminating codes (R66)
  | .wT0 => Sys2Proof.Machine.execWT0 s
  | .wT1 => Sys2Proof.Machine.execWT1 s
  | .wT2 => Sys2Proof.Machine.execWT2 s
  | .wT3 => Sys2Proof.Machine.execWT3 s
  | .wT4 => Sys2Proof.Machine.execWT4 s
  | .wT5 => Sys2Proof.Machine.execWT5 s
  | .wT6 => Sys2Proof.Machine.execWT6 s
  | .wT7 => Sys2Proof.Machine.execWT7 s
  | .wT8 => Sys2Proof.Machine.execWT8 s
  | .wT9 => Sys2Proof.Machine.execWT9 s
  | .wT10 => Sys2Proof.Machine.execWT10 s
  | .wT11 => Sys2Proof.Machine.execWT11 s
  | .wT12 => Sys2Proof.Machine.execWT12 s
  | .wT13 => Sys2Proof.Machine.execWT13 s
  | .wT14 => Sys2Proof.Machine.execWT14 s
  | .wT15 => Sys2Proof.Machine.execWT15 s
  | .wT16 => Sys2Proof.Machine.execWT16 s
  | .wT17 => Sys2Proof.Machine.execWT17 s
  | .wT18 => Sys2Proof.Machine.execWT18 s
  | .wT19 => Sys2Proof.Machine.execWT19 s
  | .wT20 => Sys2Proof.Machine.execWT20 s
  | .wT21 => Sys2Proof.Machine.execWT21 s
  | .wT22 => Sys2Proof.Machine.execWT22 s
  | .wT23 => Sys2Proof.Machine.execWT23 s
  | .wT24 => Sys2Proof.Machine.execWT24 s
  | .wT25 => Sys2Proof.Machine.execWT25 s
  | .wT26 => Sys2Proof.Machine.execWT26 s
  | .wT27 => Sys2Proof.Machine.execWT27 s
  | .wT28 => Sys2Proof.Machine.execWT28 s
  | .wT29 => Sys2Proof.Machine.execWT29 s
  | .wT30 => Sys2Proof.Machine.execWT30 s
  | .wT31 => Sys2Proof.Machine.execWT31 s
  | .wT32 => Sys2Proof.Machine.execWT32 s
  | .wT33 => Sys2Proof.Machine.execWT33 s
  | .wT34 => Sys2Proof.Machine.execWT34 s
  | .wT35 => Sys2Proof.Machine.execWT35 s
  | .wT36 => Sys2Proof.Machine.execWT36 s
  | .wT37 => Sys2Proof.Machine.execWT37 s
  | .wT38 => Sys2Proof.Machine.execWT38 s
  | .wT39 => Sys2Proof.Machine.execWT39 s
  | .wT40 => Sys2Proof.Machine.execWT40 s
  | .wT41 => Sys2Proof.Machine.execWT41 s
  | .wT42 => Sys2Proof.Machine.execWT42 s
  | .wT43 => Sys2Proof.Machine.execWT43 s
  | .wT44 => Sys2Proof.Machine.execWT44 s
  | .wT45 => Sys2Proof.Machine.execWT45 s
  | .wT46 => Sys2Proof.Machine.execWT46 s
  | .wT47 => Sys2Proof.Machine.execWT47 s
  | .wT48 => Sys2Proof.Machine.execWT48 s
  | .wT49 => Sys2Proof.Machine.execWT49 s
  | .wT50 => Sys2Proof.Machine.execWT50 s
  | .wT51 => Sys2Proof.Machine.execWT51 s
  | .wT52 => Sys2Proof.Machine.execWT52 s
  | .wT53 => Sys2Proof.Machine.execWT53 s
  | .wT54 => Sys2Proof.Machine.execWT54 s
  | .wT55 => Sys2Proof.Machine.execWT55 s
  | .wT56 => Sys2Proof.Machine.execWT56 s
  | .wT57 => Sys2Proof.Machine.execWT57 s
  | .wT58 => Sys2Proof.Machine.execWT58 s
  | .wT59 => Sys2Proof.Machine.execWT59 s
  | .wT60 => Sys2Proof.Machine.execWT60 s
  | .wT61 => Sys2Proof.Machine.execWT61 s
  | .wT62 => Sys2Proof.Machine.execWT62 s
  | .wT63 => Sys2Proof.Machine.execWT63 s
  -- White makeup codes (R67)
  | .wM64 => Sys2Proof.Machine.execWM64 s
  | .wM128 => Sys2Proof.Machine.execWM128 s
  | .wM192 => Sys2Proof.Machine.execWM192 s
  | .wM256 => Sys2Proof.Machine.execWM256 s
  | .wM320 => Sys2Proof.Machine.execWM320 s
  | .wM384 => Sys2Proof.Machine.execWM384 s
  | .wM448 => Sys2Proof.Machine.execWM448 s
  | .wM512 => Sys2Proof.Machine.execWM512 s
  | .wM576 => Sys2Proof.Machine.execWM576 s
  | .wM640 => Sys2Proof.Machine.execWM640 s
  | .wM704 => Sys2Proof.Machine.execWM704 s
  | .wM768 => Sys2Proof.Machine.execWM768 s
  | .wM832 => Sys2Proof.Machine.execWM832 s
  | .wM896 => Sys2Proof.Machine.execWM896 s
  | .wM960 => Sys2Proof.Machine.execWM960 s
  | .wM1024 => Sys2Proof.Machine.execWM1024 s
  | .wM1088 => Sys2Proof.Machine.execWM1088 s
  | .wM1152 => Sys2Proof.Machine.execWM1152 s
  | .wM1216 => Sys2Proof.Machine.execWM1216 s
  | .wM1280 => Sys2Proof.Machine.execWM1280 s
  | .wM1344 => Sys2Proof.Machine.execWM1344 s
  | .wM1408 => Sys2Proof.Machine.execWM1408 s
  | .wM1472 => Sys2Proof.Machine.execWM1472 s
  | .wM1536 => Sys2Proof.Machine.execWM1536 s
  | .wM1600 => Sys2Proof.Machine.execWM1600 s
  | .wM1664 => Sys2Proof.Machine.execWM1664 s
  | .wM1728 => Sys2Proof.Machine.execWM1728 s
  -- Shared makeup codes of the white bank (R68)
  | .wX1792 => Sys2Proof.Machine.execWX1792 s
  | .wX1856 => Sys2Proof.Machine.execWX1856 s
  | .wX1920 => Sys2Proof.Machine.execWX1920 s
  | .wX1984 => Sys2Proof.Machine.execWX1984 s
  | .wX2048 => Sys2Proof.Machine.execWX2048 s
  | .wX2112 => Sys2Proof.Machine.execWX2112 s
  | .wX2176 => Sys2Proof.Machine.execWX2176 s
  | .wX2240 => Sys2Proof.Machine.execWX2240 s
  | .wX2304 => Sys2Proof.Machine.execWX2304 s
  | .wX2368 => Sys2Proof.Machine.execWX2368 s
  | .wX2432 => Sys2Proof.Machine.execWX2432 s
  | .wX2496 => Sys2Proof.Machine.execWX2496 s
  | .wX2560 => Sys2Proof.Machine.execWX2560 s
  -- Black terminating codes (R70)
  | .bT0 => Sys2Proof.Machine.execBT0 s
  | .bT1 => Sys2Proof.Machine.execBT1 s
  | .bT2 => Sys2Proof.Machine.execBT2 s
  | .bT3 => Sys2Proof.Machine.execBT3 s
  | .bT4 => Sys2Proof.Machine.execBT4 s
  | .bT5 => Sys2Proof.Machine.execBT5 s
  | .bT6 => Sys2Proof.Machine.execBT6 s
  | .bT7 => Sys2Proof.Machine.execBT7 s
  | .bT8 => Sys2Proof.Machine.execBT8 s
  | .bT9 => Sys2Proof.Machine.execBT9 s
  | .bT10 => Sys2Proof.Machine.execBT10 s
  | .bT11 => Sys2Proof.Machine.execBT11 s
  | .bT12 => Sys2Proof.Machine.execBT12 s
  | .bT13 => Sys2Proof.Machine.execBT13 s
  | .bT14 => Sys2Proof.Machine.execBT14 s
  | .bT15 => Sys2Proof.Machine.execBT15 s
  | .bT16 => Sys2Proof.Machine.execBT16 s
  | .bT17 => Sys2Proof.Machine.execBT17 s
  | .bT18 => Sys2Proof.Machine.execBT18 s
  | .bT19 => Sys2Proof.Machine.execBT19 s
  | .bT20 => Sys2Proof.Machine.execBT20 s
  | .bT21 => Sys2Proof.Machine.execBT21 s
  | .bT22 => Sys2Proof.Machine.execBT22 s
  | .bT23 => Sys2Proof.Machine.execBT23 s
  | .bT24 => Sys2Proof.Machine.execBT24 s
  | .bT25 => Sys2Proof.Machine.execBT25 s
  | .bT26 => Sys2Proof.Machine.execBT26 s
  | .bT27 => Sys2Proof.Machine.execBT27 s
  | .bT28 => Sys2Proof.Machine.execBT28 s
  | .bT29 => Sys2Proof.Machine.execBT29 s
  | .bT30 => Sys2Proof.Machine.execBT30 s
  | .bT31 => Sys2Proof.Machine.execBT31 s
  | .bT32 => Sys2Proof.Machine.execBT32 s
  | .bT33 => Sys2Proof.Machine.execBT33 s
  | .bT34 => Sys2Proof.Machine.execBT34 s
  | .bT35 => Sys2Proof.Machine.execBT35 s
  | .bT36 => Sys2Proof.Machine.execBT36 s
  | .bT37 => Sys2Proof.Machine.execBT37 s
  | .bT38 => Sys2Proof.Machine.execBT38 s
  | .bT39 => Sys2Proof.Machine.execBT39 s
  | .bT40 => Sys2Proof.Machine.execBT40 s
  | .bT41 => Sys2Proof.Machine.execBT41 s
  | .bT42 => Sys2Proof.Machine.execBT42 s
  | .bT43 => Sys2Proof.Machine.execBT43 s
  | .bT44 => Sys2Proof.Machine.execBT44 s
  | .bT45 => Sys2Proof.Machine.execBT45 s
  | .bT46 => Sys2Proof.Machine.execBT46 s
  | .bT47 => Sys2Proof.Machine.execBT47 s
  | .bT48 => Sys2Proof.Machine.execBT48 s
  | .bT49 => Sys2Proof.Machine.execBT49 s
  | .bT50 => Sys2Proof.Machine.execBT50 s
  | .bT51 => Sys2Proof.Machine.execBT51 s
  | .bT52 => Sys2Proof.Machine.execBT52 s
  | .bT53 => Sys2Proof.Machine.execBT53 s
  | .bT54 => Sys2Proof.Machine.execBT54 s
  | .bT55 => Sys2Proof.Machine.execBT55 s
  | .bT56 => Sys2Proof.Machine.execBT56 s
  | .bT57 => Sys2Proof.Machine.execBT57 s
  | .bT58 => Sys2Proof.Machine.execBT58 s
  | .bT59 => Sys2Proof.Machine.execBT59 s
  | .bT60 => Sys2Proof.Machine.execBT60 s
  | .bT61 => Sys2Proof.Machine.execBT61 s
  | .bT62 => Sys2Proof.Machine.execBT62 s
  | .bT63 => Sys2Proof.Machine.execBT63 s
  -- Black makeup codes (R71)
  | .bM64 => Sys2Proof.Machine.execBM64 s
  | .bM128 => Sys2Proof.Machine.execBM128 s
  | .bM192 => Sys2Proof.Machine.execBM192 s
  | .bM256 => Sys2Proof.Machine.execBM256 s
  | .bM320 => Sys2Proof.Machine.execBM320 s
  | .bM384 => Sys2Proof.Machine.execBM384 s
  | .bM448 => Sys2Proof.Machine.execBM448 s
  | .bM512 => Sys2Proof.Machine.execBM512 s
  | .bM576 => Sys2Proof.Machine.execBM576 s
  | .bM640 => Sys2Proof.Machine.execBM640 s
  | .bM704 => Sys2Proof.Machine.execBM704 s
  | .bM768 => Sys2Proof.Machine.execBM768 s
  | .bM832 => Sys2Proof.Machine.execBM832 s
  | .bM896 => Sys2Proof.Machine.execBM896 s
  | .bM960 => Sys2Proof.Machine.execBM960 s
  | .bM1024 => Sys2Proof.Machine.execBM1024 s
  | .bM1088 => Sys2Proof.Machine.execBM1088 s
  | .bM1152 => Sys2Proof.Machine.execBM1152 s
  | .bM1216 => Sys2Proof.Machine.execBM1216 s
  | .bM1280 => Sys2Proof.Machine.execBM1280 s
  | .bM1344 => Sys2Proof.Machine.execBM1344 s
  | .bM1408 => Sys2Proof.Machine.execBM1408 s
  | .bM1472 => Sys2Proof.Machine.execBM1472 s
  | .bM1536 => Sys2Proof.Machine.execBM1536 s
  | .bM1600 => Sys2Proof.Machine.execBM1600 s
  | .bM1664 => Sys2Proof.Machine.execBM1664 s
  | .bM1728 => Sys2Proof.Machine.execBM1728 s
  -- Shared makeup codes of the black bank (R68)
  | .bX1792 => Sys2Proof.Machine.execBX1792 s
  | .bX1856 => Sys2Proof.Machine.execBX1856 s
  | .bX1920 => Sys2Proof.Machine.execBX1920 s
  | .bX1984 => Sys2Proof.Machine.execBX1984 s
  | .bX2048 => Sys2Proof.Machine.execBX2048 s
  | .bX2112 => Sys2Proof.Machine.execBX2112 s
  | .bX2176 => Sys2Proof.Machine.execBX2176 s
  | .bX2240 => Sys2Proof.Machine.execBX2240 s
  | .bX2304 => Sys2Proof.Machine.execBX2304 s
  | .bX2368 => Sys2Proof.Machine.execBX2368 s
  | .bX2432 => Sys2Proof.Machine.execBX2432 s
  | .bX2496 => Sys2Proof.Machine.execBX2496 s
  | .bX2560 => Sys2Proof.Machine.execBX2560 s
  -- The EOL codeword (R69)
  | .wEol => Sys2Proof.Machine.execWEol s
  | .bEol => Sys2Proof.Machine.execBEol s
  -- Host operations
  | .reset => Sys2Proof.Machine.execReset s
  | .start => Sys2Proof.Machine.execStart s
  | .bit b => Sys2Proof.Machine.execBit b s
  | .endData => Sys2Proof.Machine.execEndData s
  | .accept => Sys2Proof.Machine.execAccept s
  | .idle => Sys2Proof.Machine.execIdle s

end Sys2Proof.Machine
end

