-- ==== Sys2Proof/Machine/Fetch.lean ====
section
/-! DEFINITION. One cycle seen from the ports: the host's move, the operation it selects (R105), the codeword it completes
(R82), and the host's own bookkeeping. And how a table word is placed so that the next step runs it. -/

namespace Sys2Proof.Machine

/-- The host's move in this cycle; after the script's end the host is quiet. -/
def State.move (s : State) : HostMove := s.script.headD HostMove.quiet

/-- The host raises `bit_end` in this cycle: once no bit remains (R106), or beside a bit that it offers (R105, V25; log entry
20). -/
def State.raisesEnd (s : State) : Bool := s.move.bitEnd && (s.source.isEmpty || s.move.bitValid)

/-- The host keeps `bit_end` at 1 in this cycle, having raised it: until `done = 1` (R106). -/
def State.keepsEnd (s : State) : Bool := s.endHeld && !isTerminal s.st

/-- The input ports in this cycle (R74). The host can offer no bit that its source does not have. -/
def State.ports (s : State) : Ports :=
  { rst := s.move.rst, start := s.move.start, bitValid := s.move.bitValid && !s.source.isEmpty,
    bitEnd := s.raisesEnd || s.keepsEnd, runReady := s.move.runReady, bitIn := s.source.headD false }

/-- The operation of this cycle (R105). -/
def State.cycleOp (s : State) : PortOp := selectOp s.st s.ports

/-- The codeword of the active bank that a bit completes, if it completes one (R82, R86). -/
def completedCodeword (s : State) (b : Bool) : Option Instr :=
  codeAt s.color (nextLen s) ((shiftIn s.codeAcc b).toNat % 2 ^ nextLen s)

/-- The instruction of this cycle: the codeword whose last bit is consumed, else the host operation. -/
def State.cycleInstr (s : State) : Instr :=
  match s.cycleOp with
  | .bit => (completedCodeword s s.ports.bitIn).getD (.bit s.ports.bitIn)
  | op => op.instr s.ports.bitIn

/-- The source after this cycle: a bit is gone exactly when `Bit` is chosen (R105); the host may reposition its source in
a `Reset` or `Start` cycle in which it offers no bit (R106, R142). -/
def State.sourceAfter (s : State) : List Bool :=
  match s.cycleOp with
  | .bit => s.source.tail
  | .reset => if s.ports.bitValid then s.source else s.move.newSource.getD s.source
  | .start => if s.ports.bitValid then s.source else s.move.newSource.getD s.source
  | .endData => s.source
  | .accept => s.source
  | .idle => s.source

/-- The host's count of consumed bits after this cycle (R105). -/
def State.consumedAfter (s : State) : Nat := if s.cycleOp = .bit then s.consumed + 1 else s.consumed

/-- Whether the host has to keep `bit_end` at 1 after this cycle: it is at 1, and `Start` and `Reset` release it (R106). -/
def State.endHeldAfter (s : State) : Bool := s.ports.bitEnd && s.cycleOp != .start && s.cycleOp != .reset

/-- The host's side of a cycle: its script advances; its source, its count and its `bit_end` follow the handshake. No register
of the decoder changes. -/
def State.advanceHost (s : State) : State :=
  { s with source := s.sourceAfter, consumed := s.consumedAfter, script := s.script.tail, endHeld := s.endHeldAfter }

/-- One cycle over any table: the host's side advances, and the operation of the cycle takes place (R9, R29, R105). -/
def cycleOver (t : LutTable) (s : State) : State := operate t s.cycleOp s.ports.bitIn s.advanceHost

/-! ### Placing a table word -/

/-- The host offers the next bit of its source and does nothing else. -/
def offerBit : HostMove := { HostMove.quiet with bitValid := true }

/-- The codeword is about to complete: all of its bits but the last have been consumed, and the last is offered. -/
def placeCodeword (cw : Codeword) (s : State) : State :=
  { s with st := .reading, codeLen := BitVec.ofNat Config.lenW (cw.len - 1),
           codeAcc := BitVec.ofNat Config.codeW (cw.pattern.toNat / 2),
           source := cw.pattern.getLsbD 0 :: s.source, script := offerBit :: s.script }

/-- The control vector is on the ports, in the state that the operation it asks for needs (R74); where it raises `bit_end`
and offers no bit, no bit remains, and no earlier `bit_end` is kept (R106). -/
def placePorts (p : Ports) (s : State) : State :=
  { s with st := (requestOf p).needs.getD s.st,
           source := if p.bitValid then p.bitIn :: s.source else if p.bitEnd then [] else s.source,
           script := { rst := p.rst, start := p.start, bitValid := p.bitValid, bitEnd := p.bitEnd,
                       runReady := p.runReady, newSource := none } :: s.script,
           endHeld := false }

/-- A table word placed where the next step meets it, codewords in the bank of `color` (log entry 6). A window that is no
codeword of that bank is only offered, bit by bit. -/
def placeWord (nbits w : Nat) (s : State) : State :=
  match decodeWordIn s.color nbits w with
  | some i =>
    match i.encoding with
    | .code cw => placeCodeword cw s
    | .port _ => placePorts (portsOfWord (BitVec.ofNat 8 w)) s
  | none => { s with source := bitsOf 13 w ++ s.source, script := offerBit :: s.script }

end Sys2Proof.Machine
end

