-- ==== Sys2Proof/Machine/Step.lean ====
section
/-! DEFINITION. One step: one rising clock edge, one operation (R9, R105). -/

namespace Sys2Proof.Machine

/-- One step over any configuration of the LUT, which is its parameter (R6, R29). -/
def stepOver (t : LutTable) (s : State) : Result := .next (cycleOver t s)

/-- The step of this hardware, whose `LUT_TABLE` is `T4_MH` (R6), through its instructions: `stepOver t4mh` (log entry 11).
One cycle: the host's side advances, and the instruction of the cycle runs. -/
def step (s : State) : Host.Outcome State Fault Refusal := exec s.cycleInstr s.advanceHost

/-- The state with a table word placed so that the next step runs it. -/
def State.withFetchWord (s : State) (nbits w : Nat) : State := placeWord nbits w s

end Sys2Proof.Machine
end

