-- ==== Sys2Proof/Machine/Instances.lean ====
section
/-! DEFINITION. Several decoder instances that share the one LUT (R46, R132): a list of states, each with its own registers,
ports and host (R33). The LUT is a constant of the step (R29), so nothing is shared that changes. -/

namespace Sys2Proof.Machine

/-- Instance `k` takes one step; there is no other instance of that number, and then nothing happens. -/
def stepInstance (k : Nat) (sys : List State) : Host.Outcome (List State) Fault Refusal :=
  match sys[k]? with
  | none => .next sys
  | some s =>
    match step s with
    | .next t => .next (sys.set k t)
    | .fault r => .fault r
    | .refused r => .refused r

/-- `n` instances, each right after its own `Reset` (R132). -/
def resetInstances (n : Nat) : List State := List.replicate n State.reset

end Sys2Proof.Machine
end

