-- ==== Sys2Proof/Machine/Sequence.lean ====
section
/-! DEFINITION. Sequences of instructions, and the two pseudo-operations of the spec's notation, `RUN` and `LINE` (R76).
The decoder never sees them: they expand to codewords. -/

namespace Sys2Proof.Machine

/-- Instructions one after another, to the first that does not answer a next state. -/
def execAll : List Instr → State → Result
  | [], s => .next s
  | i :: is, s =>
    match exec i s with
    | .next t => execAll is t
    | .fault r => .fault r
    | .refused r => .refused r

/-- The codeword of a bank for a kind and a run length, found in the LUT by its value. -/
def codeFor (c : Color) (k : Kind) (value : Nat) : Option Instr :=
  ((bankOf t4mh c).find? fun w => lutKind w == k && (lutValue w).toNat == value).bind
    fun w => codeAt c (lutBitLength w) (lutPattern w).toNat

/-- How many makeup codes of 2560 `RUN` emits: as long as at least 2624 remain (R76). -/
def longCodes (n : Nat) : Nat := if n < 2624 then 0 else (n - 2624) / 2560 + 1

/-- What remains of a run after the makeup codes of 2560. -/
def shortPart (n : Nat) : Nat := n - 2560 * longCodes n

/-- `RUN(c, n)`: makeup codes of 2560 while at least 2624 remain, one makeup code where at least 64 remain, and the
terminating code of the rest (R76). -/
def runCodes (c : Color) (n : Nat) : List Instr :=
  List.replicate (longCodes n) ((codeFor c .makeup 2560).getD .idle) ++
  (if shortPart n < 64 then [] else [(codeFor c .makeup (64 * (shortPart n / 64))).getD .idle]) ++
  [(codeFor c .term (shortPart n % 64)).getD .idle]

/-- The runs of a line in alternating colors, each accepted by the host, then the EOL codeword as `W.EOL` (R76). -/
def lineCodes : Color → List Nat → List Instr
  | _, [] => [.wEol]
  | c, n :: ns => runCodes c n ++ .accept :: lineCodes (otherColor c) ns

/-- The runs that a line of these lengths is, from a color on. -/
def lineRuns : Color → List Nat → List Run
  | _, [] => []
  | c, n :: ns => ⟨c, BitVec.ofNat Config.runW n⟩ :: lineRuns (otherColor c) ns

end Sys2Proof.Machine
end

