-- ==== Sys2Proof/Safety.lean ====
section
/-! DEFINITION. What claims are stated in: the invariants of R27, the alternation of colors (R93), the result of a line
(R107), the chain of makeup codes of one run (R94). -/

namespace Sys2Proof.Machine

/-- R27 (a): the bits held are `code_len` bits. -/
abbrev State.CodeFits (s : State) : Prop := s.codeAcc.toNat < 2 ^ s.codeLen.toNat

/-- R27 (b) over a table: no more bits are held than the longest codeword has, and none outside `READING` and `ERROR`. -/
abbrev State.LengthBounded (t : LutTable) (s : State) : Prop :=
  (s.st ≠ .error → s.codeLen.toNat ≤ lmax t s.color) ∧ (s.st ≠ .reading → s.st ≠ .error → s.codeLen = 0)

/-- R27 (c): the makeup sum is a multiple of 64. -/
abbrev State.SumOfMakeups (s : State) : Prop := s.runAcc.toNat % 64 = 0

/-- R27 (d): while a run is held, the sum is cleared and the color is the next run's. -/
abbrev State.RunHeld (s : State) : Prop :=
  s.st = .runComplete → s.runAcc = 0 ∧ s.color = otherColor s.outColor

/-- R27 (e): there is an error code exactly in `ERROR`. -/
abbrev State.ErrorCoded (s : State) : Prop := s.errCode ≠ .none ↔ s.st = .error

/-- R27 (f): `st ≤ 4`. -/
abbrev State.StateNamed (s : State) : Prop := (stCode s.st).toNat ≤ 4

/-- The invariants of R27 over a table. -/
abbrev State.InvOver (t : LutTable) (s : State) : Prop :=
  s.CodeFits ∧ s.LengthBounded t ∧ s.SumOfMakeups ∧ s.RunHeld ∧ s.ErrorCoded ∧ s.StateNamed

/-- The invariants of R27 for this hardware's table. -/
abbrev State.Inv (s : State) : Prop := s.InvOver t4mh

/-- Colors of runs that alternate from a color on. -/
def alternateFrom : Color → List Run → Bool
  | _, [] => true
  | c, r :: rs => r.color == c && alternateFrom (otherColor c) rs

/-- The color that comes after `n` alternations from `WHITE`. -/
def colorAfter (n : Nat) : Color := if n % 2 = 0 then .white else .black

/-- R93: the runs delivered alternate from `WHITE`, the held run has the next color and the run after it the color after
that. -/
abbrev State.Alternates (s : State) : Prop :=
  alternateFrom .white s.delivered = true ∧
  (s.st = .runComplete →
    s.outColor = colorAfter s.delivered.length ∧ s.color = colorAfter (s.delivered.length + 1)) ∧
  (s.st ≠ .runComplete → s.color = colorAfter s.delivered.length)

/-- The result of a line: the runs delivered, with the final `st` and `err_code` (R107). -/
def State.lineResult (s : State) : List Run × St × ErrCode := (s.delivered, s.st, s.errCode)

/-- The decoder reads, and a fresh codeword begins (R85, R92). -/
abbrev State.Fresh (s : State) : Prop := s.st = .reading ∧ s.codeLen = 0

/-- The registers of the decoder (R20 to R26). -/
structure Registers where
  st       : St
  color    : Color
  runAcc   : RunLen
  codeAcc  : CodeAcc
  codeLen  : CodeLen
  outColor : Color
  outLen   : RunLen
  errCode  : ErrCode
  deriving DecidableEq, Repr

/-- The registers of a state. -/
def State.registers (s : State) : Registers :=
  ⟨s.st, s.color, s.runAcc, s.codeAcc, s.codeLen, s.outColor, s.outLen, s.errCode⟩

/-- A script of a host that offers a bit in each of `n` cycles and does nothing else. -/
def offers (n : Nat) : List HostMove := List.replicate n offerBit

/-- The next state of a result, where it is one. -/
def nextOf : Result → Option State
  | .next t => some t
  | .fault _ => none
  | .refused _ => none

end Sys2Proof.Machine
end

