-- ==== Sys2Proof/Certificates/Slice0/Obligations.lean ====
section
/-! DEFINITION. The statements for the provers, and the spec's code tables (R66 to R71) as the statements quote them:
transcribed from the `bits` and `run` columns, apart from the model's own tables. -/

namespace Sys2Proof.Claims

open Sys2Proof Sys2Proof.Machine

/-- One row of a code table: the instruction, its codeword (the length, and the bits in the order received read as a
binary number), its run length. -/
structure Row where
  instr : Instr
  code  : Codeword
  run   : Nat
  deriving DecidableEq, Repr

/-- A row from its columns: the bank, `len`, `bits`, `run`. -/
def row (i : Instr) (c : Color) (len : Nat) (bits : BitVec 13) (run : Nat) : Row := ⟨i, ⟨c, len, bits⟩, run⟩

/-- R66. Part 1: W.T0 to W.T15. -/
def whiteTermTable0 : List Row :=
  [row .wT0 .white 8 0b00110101 0,
   row .wT1 .white 6 0b000111 1,
   row .wT2 .white 4 0b0111 2,
   row .wT3 .white 4 0b1000 3,
   row .wT4 .white 4 0b1011 4,
   row .wT5 .white 4 0b1100 5,
   row .wT6 .white 4 0b1110 6,
   row .wT7 .white 4 0b1111 7,
   row .wT8 .white 5 0b10011 8,
   row .wT9 .white 5 0b10100 9,
   row .wT10 .white 5 0b00111 10,
   row .wT11 .white 5 0b01000 11,
   row .wT12 .white 6 0b001000 12,
   row .wT13 .white 6 0b000011 13,
   row .wT14 .white 6 0b110100 14,
   row .wT15 .white 6 0b110101 15]

/-- R66. Part 2: W.T16 to W.T31. -/
def whiteTermTable1 : List Row :=
  [row .wT16 .white 6 0b101010 16,
   row .wT17 .white 6 0b101011 17,
   row .wT18 .white 7 0b0100111 18,
   row .wT19 .white 7 0b0001100 19,
   row .wT20 .white 7 0b0001000 20,
   row .wT21 .white 7 0b0010111 21,
   row .wT22 .white 7 0b0000011 22,
   row .wT23 .white 7 0b0000100 23,
   row .wT24 .white 7 0b0101000 24,
   row .wT25 .white 7 0b0101011 25,
   row .wT26 .white 7 0b0010011 26,
   row .wT27 .white 7 0b0100100 27,
   row .wT28 .white 7 0b0011000 28,
   row .wT29 .white 8 0b00000010 29,
   row .wT30 .white 8 0b00000011 30,
   row .wT31 .white 8 0b00011010 31]

/-- R66. Part 3: W.T32 to W.T47. -/
def whiteTermTable2 : List Row :=
  [row .wT32 .white 8 0b00011011 32,
   row .wT33 .white 8 0b00010010 33,
   row .wT34 .white 8 0b00010011 34,
   row .wT35 .white 8 0b00010100 35,
   row .wT36 .white 8 0b00010101 36,
   row .wT37 .white 8 0b00010110 37,
   row .wT38 .white 8 0b00010111 38,
   row .wT39 .white 8 0b00101000 39,
   row .wT40 .white 8 0b00101001 40,
   row .wT41 .white 8 0b00101010 41,
   row .wT42 .white 8 0b00101011 42,
   row .wT43 .white 8 0b00101100 43,
   row .wT44 .white 8 0b00101101 44,
   row .wT45 .white 8 0b00000100 45,
   row .wT46 .white 8 0b00000101 46,
   row .wT47 .white 8 0b00001010 47]

/-- R66. Part 4: W.T48 to W.T63. -/
def whiteTermTable3 : List Row :=
  [row .wT48 .white 8 0b00001011 48,
   row .wT49 .white 8 0b01010010 49,
   row .wT50 .white 8 0b01010011 50,
   row .wT51 .white 8 0b01010100 51,
   row .wT52 .white 8 0b01010101 52,
   row .wT53 .white 8 0b00100100 53,
   row .wT54 .white 8 0b00100101 54,
   row .wT55 .white 8 0b01011000 55,
   row .wT56 .white 8 0b01011001 56,
   row .wT57 .white 8 0b01011010 57,
   row .wT58 .white 8 0b01011011 58,
   row .wT59 .white 8 0b01001010 59,
   row .wT60 .white 8 0b01001011 60,
   row .wT61 .white 8 0b00110010 61,
   row .wT62 .white 8 0b00110011 62,
   row .wT63 .white 8 0b00110100 63]

/-- R66. -/
def whiteTermTable : List Row := whiteTermTable0 ++ whiteTermTable1 ++ whiteTermTable2 ++ whiteTermTable3

/-- R67, and the white bank of R68. Part 1: W.M64 to W.M1024. -/
def whiteMakeupTable0 : List Row :=
  [row .wM64 .white 5 0b11011 64,
   row .wM128 .white 5 0b10010 128,
   row .wM192 .white 6 0b010111 192,
   row .wM256 .white 7 0b0110111 256,
   row .wM320 .white 8 0b00110110 320,
   row .wM384 .white 8 0b00110111 384,
   row .wM448 .white 8 0b01100100 448,
   row .wM512 .white 8 0b01100101 512,
   row .wM576 .white 8 0b01101000 576,
   row .wM640 .white 8 0b01100111 640,
   row .wM704 .white 9 0b011001100 704,
   row .wM768 .white 9 0b011001101 768,
   row .wM832 .white 9 0b011010010 832,
   row .wM896 .white 9 0b011010011 896,
   row .wM960 .white 9 0b011010100 960,
   row .wM1024 .white 9 0b011010101 1024]

/-- R67, and the white bank of R68. Part 2: W.M1088 to W.X2048. -/
def whiteMakeupTable1 : List Row :=
  [row .wM1088 .white 9 0b011010110 1088,
   row .wM1152 .white 9 0b011010111 1152,
   row .wM1216 .white 9 0b011011000 1216,
   row .wM1280 .white 9 0b011011001 1280,
   row .wM1344 .white 9 0b011011010 1344,
   row .wM1408 .white 9 0b011011011 1408,
   row .wM1472 .white 9 0b010011000 1472,
   row .wM1536 .white 9 0b010011001 1536,
   row .wM1600 .white 9 0b010011010 1600,
   row .wM1664 .white 6 0b011000 1664,
   row .wM1728 .white 9 0b010011011 1728,
   row .wX1792 .white 11 0b00000001000 1792,
   row .wX1856 .white 11 0b00000001100 1856,
   row .wX1920 .white 11 0b00000001101 1920,
   row .wX1984 .white 12 0b000000010010 1984,
   row .wX2048 .white 12 0b000000010011 2048]

/-- R67, and the white bank of R68. Part 3: W.X2112 to W.X2560. -/
def whiteMakeupTable2 : List Row :=
  [row .wX2112 .white 12 0b000000010100 2112,
   row .wX2176 .white 12 0b000000010101 2176,
   row .wX2240 .white 12 0b000000010110 2240,
   row .wX2304 .white 12 0b000000010111 2304,
   row .wX2368 .white 12 0b000000011100 2368,
   row .wX2432 .white 12 0b000000011101 2432,
   row .wX2496 .white 12 0b000000011110 2496,
   row .wX2560 .white 12 0b000000011111 2560]

/-- R67, and the white bank of R68. -/
def whiteMakeupTable : List Row := whiteMakeupTable0 ++ whiteMakeupTable1 ++ whiteMakeupTable2

/-- R70. Part 1: B.T0 to B.T15. -/
def blackTermTable0 : List Row :=
  [row .bT0 .black 10 0b0000110111 0,
   row .bT1 .black 3 0b010 1,
   row .bT2 .black 2 0b11 2,
   row .bT3 .black 2 0b10 3,
   row .bT4 .black 3 0b011 4,
   row .bT5 .black 4 0b0011 5,
   row .bT6 .black 4 0b0010 6,
   row .bT7 .black 5 0b00011 7,
   row .bT8 .black 6 0b000101 8,
   row .bT9 .black 6 0b000100 9,
   row .bT10 .black 7 0b0000100 10,
   row .bT11 .black 7 0b0000101 11,
   row .bT12 .black 7 0b0000111 12,
   row .bT13 .black 8 0b00000100 13,
   row .bT14 .black 8 0b00000111 14,
   row .bT15 .black 9 0b000011000 15]

/-- R70. Part 2: B.T16 to B.T31. -/
def blackTermTable1 : List Row :=
  [row .bT16 .black 10 0b0000010111 16,
   row .bT17 .black 10 0b0000011000 17,
   row .bT18 .black 10 0b0000001000 18,
   row .bT19 .black 11 0b00001100111 19,
   row .bT20 .black 11 0b00001101000 20,
   row .bT21 .black 11 0b00001101100 21,
   row .bT22 .black 11 0b00000110111 22,
   row .bT23 .black 11 0b00000101000 23,
   row .bT24 .black 11 0b00000010111 24,
   row .bT25 .black 11 0b00000011000 25,
   row .bT26 .black 12 0b000011001010 26,
   row .bT27 .black 12 0b000011001011 27,
   row .bT28 .black 12 0b000011001100 28,
   row .bT29 .black 12 0b000011001101 29,
   row .bT30 .black 12 0b000001101000 30,
   row .bT31 .black 12 0b000001101001 31]

/-- R70. Part 3: B.T32 to B.T47. -/
def blackTermTable2 : List Row :=
  [row .bT32 .black 12 0b000001101010 32,
   row .bT33 .black 12 0b000001101011 33,
   row .bT34 .black 12 0b000011010010 34,
   row .bT35 .black 12 0b000011010011 35,
   row .bT36 .black 12 0b000011010100 36,
   row .bT37 .black 12 0b000011010101 37,
   row .bT38 .black 12 0b000011010110 38,
   row .bT39 .black 12 0b000011010111 39,
   row .bT40 .black 12 0b000001101100 40,
   row .bT41 .black 12 0b000001101101 41,
   row .bT42 .black 12 0b000011011010 42,
   row .bT43 .black 12 0b000011011011 43,
   row .bT44 .black 12 0b000001010100 44,
   row .bT45 .black 12 0b000001010101 45,
   row .bT46 .black 12 0b000001010110 46,
   row .bT47 .black 12 0b000001010111 47]

/-- R70. Part 4: B.T48 to B.T63. -/
def blackTermTable3 : List Row :=
  [row .bT48 .black 12 0b000001100100 48,
   row .bT49 .black 12 0b000001100101 49,
   row .bT50 .black 12 0b000001010010 50,
   row .bT51 .black 12 0b000001010011 51,
   row .bT52 .black 12 0b000000100100 52,
   row .bT53 .black 12 0b000000110111 53,
   row .bT54 .black 12 0b000000111000 54,
   row .bT55 .black 12 0b000000100111 55,
   row .bT56 .black 12 0b000000101000 56,
   row .bT57 .black 12 0b000001011000 57,
   row .bT58 .black 12 0b000001011001 58,
   row .bT59 .black 12 0b000000101011 59,
   row .bT60 .black 12 0b000000101100 60,
   row .bT61 .black 12 0b000001011010 61,
   row .bT62 .black 12 0b000001100110 62,
   row .bT63 .black 12 0b000001100111 63]

/-- R70. -/
def blackTermTable : List Row := blackTermTable0 ++ blackTermTable1 ++ blackTermTable2 ++ blackTermTable3

/-- R71, and the black bank of R68. Part 1: B.M64 to B.M1024. -/
def blackMakeupTable0 : List Row :=
  [row .bM64 .black 10 0b0000001111 64,
   row .bM128 .black 12 0b000011001000 128,
   row .bM192 .black 12 0b000011001001 192,
   row .bM256 .black 12 0b000001011011 256,
   row .bM320 .black 12 0b000000110011 320,
   row .bM384 .black 12 0b000000110100 384,
   row .bM448 .black 12 0b000000110101 448,
   row .bM512 .black 13 0b0000001101100 512,
   row .bM576 .black 13 0b0000001101101 576,
   row .bM640 .black 13 0b0000001001010 640,
   row .bM704 .black 13 0b0000001001011 704,
   row .bM768 .black 13 0b0000001001100 768,
   row .bM832 .black 13 0b0000001001101 832,
   row .bM896 .black 13 0b0000001110010 896,
   row .bM960 .black 13 0b0000001110011 960,
   row .bM1024 .black 13 0b0000001110100 1024]

/-- R71, and the black bank of R68. Part 2: B.M1088 to B.X2048. -/
def blackMakeupTable1 : List Row :=
  [row .bM1088 .black 13 0b0000001110101 1088,
   row .bM1152 .black 13 0b0000001110110 1152,
   row .bM1216 .black 13 0b0000001110111 1216,
   row .bM1280 .black 13 0b0000001010010 1280,
   row .bM1344 .black 13 0b0000001010011 1344,
   row .bM1408 .black 13 0b0000001010100 1408,
   row .bM1472 .black 13 0b0000001010101 1472,
   row .bM1536 .black 13 0b0000001011010 1536,
   row .bM1600 .black 13 0b0000001011011 1600,
   row .bM1664 .black 13 0b0000001100100 1664,
   row .bM1728 .black 13 0b0000001100101 1728,
   row .bX1792 .black 11 0b00000001000 1792,
   row .bX1856 .black 11 0b00000001100 1856,
   row .bX1920 .black 11 0b00000001101 1920,
   row .bX1984 .black 12 0b000000010010 1984,
   row .bX2048 .black 12 0b000000010011 2048]

/-- R71, and the black bank of R68. Part 3: B.X2112 to B.X2560. -/
def blackMakeupTable2 : List Row :=
  [row .bX2112 .black 12 0b000000010100 2112,
   row .bX2176 .black 12 0b000000010101 2176,
   row .bX2240 .black 12 0b000000010110 2240,
   row .bX2304 .black 12 0b000000010111 2304,
   row .bX2368 .black 12 0b000000011100 2368,
   row .bX2432 .black 12 0b000000011101 2432,
   row .bX2496 .black 12 0b000000011110 2496,
   row .bX2560 .black 12 0b000000011111 2560]

/-- R71, and the black bank of R68. -/
def blackMakeupTable : List Row := blackMakeupTable0 ++ blackMakeupTable1 ++ blackMakeupTable2

/-- The terminating codes of a bank. -/
def termTable : Color → List Row
  | .white => whiteTermTable
  | .black => blackTermTable

/-- The makeup codes of a bank. -/
def makeupTable : Color → List Row
  | .white => whiteMakeupTable
  | .black => blackMakeupTable

/-- R69: the EOL codeword of the two banks, `000000000001`. -/
def eolTable : List (Instr × Codeword) :=
  [(.wEol, ⟨.white, 12, 0b000000000001⟩), (.bEol, ⟨.black, 12, 0b000000000001⟩)]

/-- R65 (a) to (e), said of the entries of a configuration. -/
def PassesR65 (t : LutTable) : Prop :=
  (∀ c, ((t.entries c).map fun e => (e.bitLength, e.pattern)).Nodup) ∧
  (∀ c, ∀ e ∈ t.entries c, ∀ f ∈ t.entries c, e.bitLength < f.bitLength →
    e.pattern.toNat ≠ f.pattern.toNat / 2 ^ (f.bitLength - e.bitLength)) ∧
  (∀ c, ∀ e ∈ t.entries c, 2 ≤ e.bitLength ∧ e.bitLength ≤ 13 ∧ e.pattern.toNat < 2 ^ e.bitLength ∧
    (e.kind = .term → e.value.toNat ≤ 63) ∧
    (e.kind = .makeup → e.value.toNat % 64 = 0 ∧ 64 ≤ e.value.toNat ∧ e.value.toNat ≤ 2560)) ∧
  (∀ c, (∀ v, v ≤ 63 → (t.entries c).countP (fun e => e.kind == .term && e.value.toNat == v) = 1) ∧
    (∀ k, 1 ≤ k → k ≤ 40 → (t.entries c).countP (fun e => e.kind == .makeup && e.value.toNat == 64 * k) = 1) ∧
    ∃ e, (t.entries c).filter (fun e => e.kind == .eol) = [e] ∧ e.bitLength = 12 ∧ e.pattern = 1) ∧
  (∀ e ∈ t.entries .white, ∀ f ∈ t.entries .black, e.kind = .makeup → f.kind = .makeup → e.value = f.value →
    1792 ≤ e.value.toNat → e.value.toNat ≤ 2560 → e.bitLength = f.bitLength ∧ e.pattern = f.pattern)

/-- The four shortest unassigned bit strings, from the longest run of zeros to the shortest (R72). -/
def deadPrefixes : List (List Bool) :=
  [[false, false, false, false, false, false, false, false, true],
   [false, false, false, false, false, false, false, false, false, true],
   [false, false, false, false, false, false, false, false, false, false, true],
   [false, false, false, false, false, false, false, false, false, false, false, false]]

end Sys2Proof.Claims

open Sys2Proof Sys2Proof.Machine Sys2Proof.Claims

/-! ### Encoding -/

/-- Words written out from the tables decode to their instructions (R66, R67, R69, R70, R74): `W.T2` is `0111`, `W.M64`
`11011`, `W.X1792` `00000001000`, `W.EOL` eleven zeros and a one, `B.T2` `11`, `B.T1` `010`; `Start` is `01000` and `End`
is `00010`. -/
def Obligations.SampleWordsDecode : Prop :=
  decodeBits .white [false, true, true, true] = .ok (.wT2, []) ∧
  decodeBits .white [true, true, false, true, true, false] = .ok (.wM64, [false]) ∧
  decodeBits .white [false, false, false, false, false, false, false, true, false, false, false] = .ok (.wX1792, []) ∧
  decodeBits .white [false, false, false, false, false, false, false, false, false, false, false, true]
    = .ok (.wEol, []) ∧
  decodeBits .black [true, true] = .ok (.bT2, []) ∧
  decodeBits .black [false, true, false] = .ok (.bT1, []) ∧
  decodePort 0b01000 = .ok .start ∧ decodePort 0b00010 = .ok .endData

/-- R73, R85: whatever bits follow, the codeword of an instruction decodes to that instruction in its bank, and exactly
its bits are taken. -/
def Obligations.CodewordDecodesWhateverFollows : Prop :=
  ∀ (i : Instr) (cw : Codeword) (rest : List Bool), i.codeword = some cw →
    decodeBits cw.color (cw.bits ++ rest) = .ok (i, rest)

/-- The other direction: bits that decode to an instruction begin with its codeword, a codeword of that bank, and what is
left is what follows it. -/
def Obligations.DecodedBitsBeginWithTheCodeword : Prop :=
  ∀ (c : Color) (bits rest : List Bool) (i : Instr), decodeBits c bits = .ok (i, rest) →
    ∃ cw, i.codeword = some cw ∧ cw.color = c ∧ bits = cw.bits ++ rest

/-- R64: a 13-bit window decodes to an instruction exactly when its leading bits are the instruction's codeword. -/
def Obligations.WindowDecodesByItsLeadingBits : Prop :=
  ∀ (c : Color) (w : BitVec 13) (i : Instr), decodeWindow c w = .ok i ↔
    ∃ cw, i.codeword = some cw ∧ cw.color = c ∧ w.toNat / 2 ^ (13 - cw.len) = cw.pattern.toNat

/-- R74, R105: the rows of the port table, taken in order of priority with the state each needs, select the operation
that the chain of R105 selects, for every state and all port values. -/
def Obligations.PortTableAgreesWithPriority : Prop :=
  ∀ (st : St) (p : Ports),
    (portRows.find? fun r => (p.ctl &&& r.mask == r.mtch) && (r.needs == none || r.needs == some st)).map (·.op)
      = some (selectOp st p)

/-! ### The LUT -/

/-- R65, R125: the configuration of this hardware passes (a) to (e). -/
def Obligations.TableIsWellFormed : Prop := t4mh.wellFormed = true ∧ PassesR65 t4mh

/-- R65, R125: the check decides exactly (a) to (e) of the configuration's entries; a configuration that passes is admitted,
and one that fails is refused as `MalformedTable`. -/
def Obligations.MalformedTableIsRefused : Prop :=
  ∀ t : LutTable, (t.wellFormed = true ↔ PassesR65 t) ∧ (t.wellFormed = true → admitTable t = .ok t) ∧
    (t.wellFormed = false → admitTable t = .error .malformedTable)

/-- R43: `LutRead` answers an entry exactly when the length is 1 to 13 and it is the entry of the bank, not `EMPTY`, that
has this length and the low bits of the pattern; all else is a `MISS`. -/
def Obligations.LutReadFindsTheOneEntry : Prop :=
  ∀ (c : Color) (len : Nat) (p : CodeAcc) (e : LutEntry),
    lutRead t4mh c len p = some e ↔
      1 ≤ len ∧ len ≤ 13 ∧ e ∈ t4mh.entries c ∧ e.bitLength = len ∧ e.pattern.toNat = p.toNat % 2 ^ len

/-- R44: `LMAX(WHITE) = 12` and `LMAX(BLACK) = 13`. -/
def Obligations.LongestCodewords : Prop := lmax t4mh .white = 12 ∧ lmax t4mh .black = 13

/-- R41: the indices 105 to 127 of each bank hold the empty word; and the addresses that R69 gives hold the EOL word. -/
def Obligations.RomAddressMap : Prop :=
  (∀ (c : Color) (index : BitVec 7), 105 ≤ index.toNat → romWord t4mh (romAddr c index) = 0xC0000000#32) ∧
  romWord t4mh 0x5E#8 = 0xB0002FFF#32 ∧ romWord t4mh 0x9E#8 = 0xB0002FFF#32

/-- R61 to R63, R66 to R71: the LUT holds every row of the code tables with its kind and its run length, and the EOL
codeword in both banks. -/
def Obligations.LutHoldsTheCodeTables : Prop :=
  (∀ c : Color, ∀ r ∈ termTable c, ∃ e, lutRead t4mh c r.code.len (r.code.pattern.setWidth 14) = some e ∧
    e.kind = .term ∧ runLengthOf e = r.run ∧ r.instr.codeword = some r.code ∧ r.code.color = c) ∧
  (∀ c : Color, ∀ r ∈ makeupTable c, ∃ e, lutRead t4mh c r.code.len (r.code.pattern.setWidth 14) = some e ∧
    e.kind = .makeup ∧ runLengthOf e = r.run ∧ (e.shared = true ↔ 1792 ≤ r.run) ∧
    r.instr.codeword = some r.code ∧ r.code.color = c) ∧
  (∀ r ∈ eolTable, ∃ e, lutRead t4mh r.2.color r.2.len (r.2.pattern.setWidth 14) = some e ∧
    e.kind = .eol ∧ e.value = 0xFFF ∧ signedValueOf e = -1 ∧ r.1.codeword = some r.2)

/-! ### The Bit operation -/

/-- R80: outside `READING` the bit is not consumed and nothing changes. -/
def Obligations.BitOutsideReadingChangesNothing : Prop :=
  ∀ (b : Bool) (s : State), s.st ≠ .reading → exec (.bit b) s = .next s

/-- R81: the old bits move one place up and the new bit enters at bit 0; with `code_acc < 2^code_len` and at most 13
bits held, nothing is lost and the result is below `2^len1`. -/
def Obligations.AccumulatorShiftsInTheBit : Prop :=
  ∀ (s : State) (b : Bool), s.CodeFits → s.codeLen.toNat ≤ 13 →
    (shiftIn s.codeAcc b).toNat = 2 * s.codeAcc.toNat + b.toNat ∧ (shiftIn s.codeAcc b).toNat < 2 ^ nextLen s ∧
    ((shiftIn s.codeAcc b).getLsbD 0 = b)

/-- R83: a miss at a length up to `LMAX(color)` stores the accumulated bits and the length, and nothing else changes. -/
def Obligations.ShortMissContinues : Prop :=
  ∀ (b : Bool) (s : State), s.st = .reading →
    lutRead t4mh s.color (nextLen s) (shiftIn s.codeAcc b) = none → nextLen s ≤ lmax t4mh s.color →
    exec (.bit b) s = .next { s with codeAcc := shiftIn s.codeAcc b, codeLen := s.codeLen + 1 }

/-- R84, R121: a miss beyond `LMAX(color)` stores the offending bits and raises `InvalidCodeword`; no other register
changes. The length is stored where it fits its register: so 15, from the unreachable `code_len = 14`, as the model reads R84 (log
entry 8); from the unreachable `code_len = 15` it is a free value (log entry 7). -/
def Obligations.OverlongMissIsInvalidCodeword : Prop :=
  ∀ (b : Bool) (s : State), s.st = .reading →
    lutRead t4mh s.color (nextLen s) (shiftIn s.codeAcc b) = none → lmax t4mh s.color < nextLen s →
    ∃ l : CodeLen, (s.codeLen ≠ 15 → l = s.codeLen + 1) ∧
      exec (.bit b) s = .next { s with codeAcc := shiftIn s.codeAcc b, codeLen := l, st := .error,
                                       errCode := .invalidCodeword }

/-- R80, R90, R121, R124: a hit on a terminating code. If the sum fits, the run is emitted, the color flips, the
accumulators are cleared and the run is held; if it does not, `RunOverflow`. Nothing else changes. -/
def Obligations.TerminatingHitCompletesTheRun : Prop :=
  ∀ (b : Bool) (s : State) (e : LutEntry), s.st = .reading →
    lutRead t4mh s.color (nextLen s) (shiftIn s.codeAcc b) = some e → e.kind = .term →
    exec (.bit b) s = .next
      (if s.runAcc.toNat + runLengthOf e < 2 ^ Config.runW then
        { s with outColor := s.color, outLen := BitVec.ofNat Config.runW (s.runAcc.toNat + runLengthOf e),
                 color := otherColor s.color, runAcc := 0, codeAcc := 0, codeLen := 0, st := .runComplete }
      else
        { s with codeAcc := shiftIn s.codeAcc b, codeLen := s.codeLen + 1, st := .error, errCode := .runOverflow })

/-- R80, R91, R121, R124: a hit on a makeup code. If the sum fits, it is the new `run_acc` and a fresh codeword begins in
the same color; if it does not, `RunOverflow` with `run_acc` as it was. Nothing else changes. -/
def Obligations.MakeupHitExtendsTheRun : Prop :=
  ∀ (b : Bool) (s : State) (e : LutEntry), s.st = .reading →
    lutRead t4mh s.color (nextLen s) (shiftIn s.codeAcc b) = some e → e.kind = .makeup →
    exec (.bit b) s = .next
      (if s.runAcc.toNat + runLengthOf e < 2 ^ Config.runW then
        { s with runAcc := BitVec.ofNat Config.runW (s.runAcc.toNat + runLengthOf e), codeAcc := 0, codeLen := 0 }
      else
        { s with codeAcc := shiftIn s.codeAcc b, codeLen := s.codeLen + 1, st := .error, errCode := .runOverflow })

/-- R80, R92: a hit on the EOL code ends the line; nothing is emitted and a pending makeup sum stays. -/
def Obligations.EolHitEndsTheLine : Prop :=
  ∀ (b : Bool) (s : State) (e : LutEntry), s.st = .reading →
    lutRead t4mh s.color (nextLen s) (shiftIn s.codeAcc b) = some e → e.kind = .eol →
    exec (.bit b) s = .next { s with codeAcc := 0, codeLen := 0, st := .endOfLine }

/-- R95: the sum of run lengths is exact or reported, never wrapped, for every register width. -/
def Obligations.RunSumsNeverWrap : Prop :=
  ∀ (w : Nat) (acc t : BitVec w) (v : Nat),
    (checkedAdd w acc v = some t ↔ t.toNat = acc.toNat + v) ∧ (checkedAdd w acc v = none ↔ 2 ^ w ≤ acc.toNat + v)

/-! ### The codewords -/

/-- What the decoder awaits (the model's notion, log entry 4): a decoder that reads with no bit held awaits every codeword
of its bank; and one that awaits a codeword has a first part of its bits in `code_acc`. -/
def Obligations.FreshDecoderAwaitsItsBank : Prop :=
  (∀ (i : Instr) (cw : Codeword) (s : State), i.codeword = some cw → s.Fresh → s.color = cw.color →
    s.awaits cw = true) ∧
  (∀ (i : Instr) (cw : Codeword) (s : State), i.codeword = some cw → s.awaits cw = true → s.CodeFits →
    s.st = .reading ∧ s.color = cw.color ∧
    bitsOf s.codeLen.toNat s.codeAcc.toNat ++ bitsOf (s.bitsLeft cw) cw.pattern.toNat = cw.bits)

/-- R66, R90: each of the 64 white terminating codewords, awaited and with a sum that fits, emits its run in white, flips
the color to black, clears the accumulators and holds the run; nothing else changes. -/
def Obligations.WhiteTerminatingCodewordsEmitTheirRun : Prop :=
  ∀ r ∈ whiteTermTable, ∀ s : State, s.awaits r.code = true → s.runAcc.toNat + r.run < 2 ^ 32 →
    exec r.instr s = .next
      { s with outColor := .white, outLen := BitVec.ofNat 32 (s.runAcc.toNat + r.run), color := .black,
               runAcc := 0, codeAcc := 0, codeLen := 0, st := .runComplete }

/-- R70, R90: each of the 64 black terminating codewords, awaited and with a sum that fits, emits its run in black, flips
the color to white, clears the accumulators and holds the run; nothing else changes. -/
def Obligations.BlackTerminatingCodewordsEmitTheirRun : Prop :=
  ∀ r ∈ blackTermTable, ∀ s : State, s.awaits r.code = true → s.runAcc.toNat + r.run < 2 ^ 32 →
    exec r.instr s = .next
      { s with outColor := .black, outLen := BitVec.ofNat 32 (s.runAcc.toNat + r.run), color := .white,
               runAcc := 0, codeAcc := 0, codeLen := 0, st := .runComplete }

/-- R67, R68, R91: each of the 40 makeup codewords of the white bank, awaited and with a sum that fits, adds its length to
`run_acc` and clears the codeword; nothing else changes. -/
def Obligations.WhiteMakeupCodewordsAddTheirLength : Prop :=
  ∀ r ∈ whiteMakeupTable, ∀ s : State, s.awaits r.code = true → s.runAcc.toNat + r.run < 2 ^ 32 →
    exec r.instr s = .next
      { s with runAcc := BitVec.ofNat 32 (s.runAcc.toNat + r.run), codeAcc := 0, codeLen := 0 }

/-- R71, R68, R91: each of the 40 makeup codewords of the black bank, awaited and with a sum that fits, adds its length to
`run_acc` and clears the codeword; nothing else changes. -/
def Obligations.BlackMakeupCodewordsAddTheirLength : Prop :=
  ∀ r ∈ blackMakeupTable, ∀ s : State, s.awaits r.code = true → s.runAcc.toNat + r.run < 2 ^ 32 →
    exec r.instr s = .next
      { s with runAcc := BitVec.ofNat 32 (s.runAcc.toNat + r.run), codeAcc := 0, codeLen := 0 }

/-- R69, R92: the EOL codeword of either bank, awaited, ends the line; `color`, `run_acc` and the held run stay. -/
def Obligations.EolCodewordsEndTheLine : Prop :=
  ∀ r ∈ eolTable, ∀ s : State, s.awaits r.2 = true →
    exec r.1 s = .next { s with codeAcc := 0, codeLen := 0, st := .endOfLine }

/-- R90, R91, R120, R121, R124: a codeword whose sum does not fit raises `RunOverflow`: the codeword is held, `run_acc`
keeps its value, no run is emitted. So for a makeup code, and, in states that no run reaches, for a terminating code. A codeword as
one instruction, and what awaits it, are the model's (log entry 4). -/
def Obligations.OverflowHoldsTheCodeword : Prop :=
  ∀ (c : Color), ∀ r ∈ makeupTable c ++ termTable c, ∀ s : State, s.awaits r.code = true → s.CodeFits →
    2 ^ 32 ≤ s.runAcc.toNat + r.run →
    exec r.instr s = .next
      { s with codeAcc := r.code.pattern.setWidth 14, codeLen := BitVec.ofNat 4 r.code.len, st := .error,
               errCode := .runOverflow }

/-- R90: with the invariant R27 (c) the overflow check of a terminating codeword never fires: an awaited terminating
codeword always completes its run. A codeword as one instruction, and what awaits it, are the model's (log entry 4). -/
def Obligations.TerminatingCodewordsNeverOverflow : Prop :=
  ∀ (c : Color), ∀ r ∈ termTable c, ∀ s : State, s.awaits r.code = true → s.SumOfMakeups →
    ∃ t, exec r.instr s = .next t ∧ t.st = .runComplete ∧ t.outColor = c ∧ t.outLen.toNat = s.runAcc.toNat + r.run

/-- R85: an awaited codeword is its remaining bits, delivered one `Bit` event after another: none of the lookups on the
way hits or is overlong, and the last one takes the codeword's action. What awaits a codeword is the model's (log entry 4). -/
def Obligations.CodewordIsItsRemainingBits : Prop :=
  ∀ (i : Instr) (cw : Codeword) (s : State), i.codeword = some cw → s.awaits cw = true →
    exec i s = .next (deliverBits (bitsOf (s.bitsLeft cw) cw.pattern.toNat) s)

/-- R75 (as log entry 4 reads it): where the decoder does not await the codeword, its name is not checked: its bits are
delivered as they are. -/
def Obligations.UnawaitedCodewordIsJustBits : Prop :=
  ∀ (i : Instr) (cw : Codeword) (s : State), i.codeword = some cw → s.awaits cw = false →
    exec i s = .next (deliverBits cw.bits s)

/-! ### The host operations -/

/-- R32, R101, R140: `Start` and `Reset`, in every state, leave every register at its reset value, which is its value in the
state after reset. No bit of the source is taken (R144), nor anything else of the host's side, which is the model's (log
entries 2 and 14). -/
def Obligations.StartAndResetLeaveTheResetValues : Prop :=
  ∀ s : State, ∃ t, exec .start s = .next t ∧ exec .reset s = .next t ∧
    t.registers = ⟨.reading, .white, 0, 0, 0, .white, 0, .none⟩ ∧ State.reset.registers = t.registers ∧
    t.source = s.source ∧ t.consumed = s.consumed ∧ t.script = s.script ∧ t.endHeld = s.endHeld

/-- R102: in `RUN_COMPLETE` the host takes the held run (`delivered`, log entry 13) and the decoder reads on; the held run
and the color stay. -/
def Obligations.AcceptDeliversTheHeldRun : Prop :=
  ∀ s : State, s.st = .runComplete →
    exec .accept s = .next { s with st := .reading, delivered := s.delivered ++ [⟨s.outColor, s.outLen⟩] }

/-- R103: in `READING`, an end of data between runs is clean; within a codeword or with a makeup sum pending it is
`UnexpectedEndOfData`; no other register changes. In any other state it has no effect. -/
def Obligations.EndOfDataIsCleanOrUnexpected : Prop :=
  ∀ s : State,
    exec .endData s = .next
      (if s.st = .reading then
        (if s.codeLen = 0 ∧ s.runAcc = 0 then { s with st := .endOfData }
         else { s with st := .error, errCode := .unexpectedEndOfData })
       else s)

/-- R104: `Idle` changes nothing. -/
def Obligations.IdleChangesNothing : Prop := ∀ s : State, exec .idle s = .next s

/-- R100, R143, R146, R128: outside `READING` nothing but `Start`, `Reset` and, in `RUN_COMPLETE`, `Accept` changes
anything: no codeword, no bit, no end of data. -/
def Obligations.NothingElseActsOutsideReading : Prop :=
  ∀ (i : Instr) (s : State), s.st ≠ .reading → i ≠ .start → i ≠ .reset →
    (i = .accept → s.st ≠ .runComplete) → exec i s = .next s

/-- R102: `Accept` has no effect in any state but `RUN_COMPLETE`. -/
def Obligations.AcceptElsewhereChangesNothing : Prop :=
  ∀ s : State, s.st ≠ .runComplete → exec .accept s = .next s

/-- R34: the unused codes of `st` are stuck: every status output is 0, and every instruction but `Start` and `Reset` leaves
the state as it is. -/
def Obligations.UnusedStatesAreStuck : Prop :=
  ∀ s : State, s.st = .unused5 ∨ s.st = .unused6 ∨ s.st = .unused7 →
    (s.outputs.bitReady = false ∧ s.outputs.runValid = false ∧ s.outputs.eol = false ∧ s.outputs.err = false ∧
      s.outputs.eod = false ∧ s.outputs.done = false) ∧
    (∀ i : Instr, i ≠ .start → i ≠ .reset → exec i s = .next s) ∧
    (∀ i : Instr, i = .start ∨ i = .reset → ∃ t, exec i s = .next t ∧ t.st = .reading)

/-- R28, with the codes of R20 and R34, R26 and R120, R8 and R21: the outputs are these functions of the registers. And the
LUT's constant outputs (R44, R133). In the unused codes of `st` `err_code` is the register too, which is the model's choice
(log entry 23). -/
def Obligations.OutputsFollowTheRegisters : Prop :=
  ∀ s : State,
    (s.outputs.bitReady = true ↔ s.st = .reading) ∧ (s.outputs.runValid = true ↔ s.st = .runComplete) ∧
    (s.outputs.eol = true ↔ s.st = .endOfLine) ∧ (s.outputs.err = true ↔ s.st = .error) ∧
    (s.outputs.eod = true ↔ s.st = .endOfData) ∧
    (s.outputs.done = true ↔ s.st = .endOfLine ∨ s.st = .error ∨ s.st = .endOfData) ∧
    s.outputs.runColor = (match s.outColor with | .white => 0#1 | .black => 1#1) ∧ s.outputs.runLen = s.outLen ∧
    s.outputs.errCode = (match s.errCode with
      | .none => 0#2 | .invalidCodeword => 1#2 | .unexpectedEndOfData => 2#2 | .runOverflow => 3#2) ∧
    s.outputs.dbgState = (match s.st with
      | .reading => 0#3 | .runComplete => 1#3 | .endOfLine => 2#3 | .error => 3#3 | .endOfData => 4#3
      | .unused5 => 5#3 | .unused6 => 6#3 | .unused7 => 7#3) ∧
    s.outputs.dbgColor = (match s.color with | .white => 0#1 | .black => 1#1) ∧ s.outputs.dbgRunAcc = s.runAcc ∧
    s.outputs.dbgCodeAcc = s.codeAcc ∧ s.outputs.dbgCodeLen = s.codeLen ∧
    s.outputs.lmaxW = 12 ∧ s.outputs.lmaxB = 13

/-! ### What every instruction leaves unchanged -/

/-- R149: every instruction answers a next state in every state. That an operation that is not enabled answers one too, that
there is no fault, and what a codeword is as an instruction, are the model's (log entries 15, 16 and 4). -/
def Obligations.EveryInstructionAnswers : Prop := ∀ (i : Instr) (s : State), ∃ t, exec i s = .next t

/-- R33, R106, R107 (the fields are the model's: log entries 2, 13, 14 and 20): no instruction touches the host's source, its
count, its script or its `bit_end`; `Accept` in `RUN_COMPLETE` delivers the held run, `Start` and `Reset` begin the count of the line's
runs anew, and nothing else changes what has been delivered. -/
def Obligations.InstructionsLeaveTheHostAlone : Prop :=
  ∀ (i : Instr) (s t : State), exec i s = .next t →
    t.source = s.source ∧ t.consumed = s.consumed ∧ t.script = s.script ∧ t.endHeld = s.endHeld ∧
    t.delivered =
      (if i = .start ∨ i = .reset then []
       else if i = .accept ∧ s.st = .runComplete then s.delivered ++ [⟨s.outColor, s.outLen⟩]
       else s.delivered)

/-- R25: the held run is written only by `Start` and `Reset` and where a terminating match completes a run. -/
def Obligations.HeldRunWrittenOnlyByACompletedRun : Prop :=
  ∀ (i : Instr) (s t : State), exec i s = .next t → i ≠ .start → i ≠ .reset →
    (t.outColor ≠ s.outColor ∨ t.outLen ≠ s.outLen) → s.st = .reading ∧ t.st = .runComplete ∧ t.outColor = s.color

/-- R21: but for `Start` and `Reset`, the color changes only where a terminating match completes a run, and then it is
inverted. -/
def Obligations.ColorFlipsOnlyAtACompletedRun : Prop :=
  ∀ (i : Instr) (s t : State), exec i s = .next t → i ≠ .start → i ≠ .reset →
    (t.color ≠ s.color → s.st = .reading ∧ t.st = .runComplete ∧ t.color = otherColor s.color) ∧
    (s.st = .reading → t.st = .runComplete → t.color = otherColor s.color)

/-- R26: but for `Start` and `Reset`, the error code is written only on entry to `ERROR`, and an entry to `ERROR` writes
one of the three codes. -/
def Obligations.ErrorCodeWrittenOnlyOnErrorEntry : Prop :=
  ∀ (i : Instr) (s t : State), exec i s = .next t → i ≠ .start → i ≠ .reset →
    (t.errCode ≠ s.errCode → s.st = .reading ∧ t.st = .error) ∧
    (s.st = .reading → t.st = .error → t.errCode ≠ .none)

/-! ### Invariants -/

/-- The state after reset meets the invariants of R27, and the alternation of R93. -/
def Obligations.ResetMeetsTheInvariants : Prop := State.reset.Inv ∧ State.reset.Alternates

/-- R27: every step keeps the invariants. So it does over every well-formed table, the table being a parameter of the step
(R6, R29). -/
def Obligations.StepKeepsTheInvariants : Prop :=
  (∀ s t : State, s.Inv → step s = .next t → t.Inv) ∧
  (∀ (tab : LutTable) (s t : State), tab.wellFormed = true → s.InvOver tab → stepOver tab s = .next t → t.InvOver tab)

/-- R93: every step keeps the alternation: the runs delivered since the last `Start` or `Reset` are white, black, white,
… and the held run is the next of them. So does every step over any table. -/
def Obligations.StepKeepsAlternation : Prop :=
  (∀ s t : State, s.Alternates → step s = .next t → t.Alternates) ∧
  (∀ (tab : LutTable) (s t : State), s.Alternates → stepOver tab s = .next t → t.Alternates)

/-! ### The step -/

/-- A step is one cycle: the host's side advances and the instruction of the cycle runs. In a cycle that chooses `Bit` it is
the codeword that the bit completes in the active bank, else `Bit` itself; in any other cycle the operation chosen. That the
codeword's instruction runs there, and the host's side, are the model's (log entries 4 and 2). -/
def Obligations.StepRunsTheCycleInstruction : Prop :=
  ∀ s : State,
    (s.cycleOp ≠ .bit → step s = exec (s.cycleOp.instr s.ports.bitIn) s.advanceHost) ∧
    (∀ i, s.cycleOp = .bit → completedCodeword s s.ports.bitIn = some i → step s = exec i s.advanceHost) ∧
    (s.cycleOp = .bit → completedCodeword s s.ports.bitIn = none → step s = exec (.bit s.ports.bitIn) s.advanceHost)

/-- R105: the operation of a cycle, in the order of priority. -/
def Obligations.CycleOperationByPriority : Prop :=
  ∀ s : State,
    s.cycleOp =
      if s.ports.rst = true then .reset
      else if s.ports.start = true then .start
      else if s.st = .reading ∧ s.ports.bitValid = true then .bit
      else if s.st = .reading ∧ s.ports.bitEnd = true then .endData
      else if s.st = .runComplete ∧ s.ports.runReady = true then .accept
      else .idle

/-- R80, R82: in a cycle that chooses `Bit`, whether or not the bit completes a codeword, the step is the `Bit` operation:
the decoder's table rows and the LUT agree on every hit. -/
def Obligations.EveryBitCycleIsTheBitOperation : Prop :=
  ∀ s : State, s.cycleOp = .bit → step s = exec (.bit s.ports.bitIn) s.advanceHost

/-- R82, R85: in a cycle that consumes the last bit of an awaited codeword, the step is that codeword's instruction. A
codeword as one instruction, and what awaits it, are the model's (log entry 4). -/
def Obligations.LastBitRunsTheCodeword : Prop :=
  ∀ (i : Instr) (cw : Codeword) (s : State), i.codeword = some cw → s.awaits cw = true → s.bitsLeft cw = 1 →
    s.cycleOp = .bit → s.ports.bitIn = cw.pattern.getLsbD 0 → step s = exec i s.advanceHost

/-- R105, R144: a bit leaves the source exactly in a cycle that chooses `Bit`, and the host counts it there; no other
cycle takes a bit. The source is put anew only in a `Start` or `Reset` cycle with no bit offered (log entry 3). -/
def Obligations.BitsLeaveTheSourceOnlyWhenConsumed : Prop :=
  ∀ s t : State, step s = .next t →
    t.script = s.script.tail ∧
    (s.cycleOp = .bit → s.st = .reading ∧ s.source = s.ports.bitIn :: t.source ∧ t.consumed = s.consumed + 1) ∧
    (s.cycleOp ≠ .bit → t.consumed = s.consumed ∧
      (t.source = s.source ∨
        ((s.cycleOp = .start ∨ s.cycleOp = .reset) ∧ s.ports.bitValid = false ∧ s.move.newSource = some t.source)))

/-- A table word placed for the fetch is what the next step runs: for every codeword of the bank of `color`, and for every
host operation. -/
def Obligations.PlacedWordIsTheNextInstruction : Prop :=
  ∀ (i : Instr) (s : State), (∀ cw, i.codeword = some cw → cw.color = s.color) →
    decodeWordIn s.color (encodeWord i).1 (encodeWord i).2 = some i ∧
    step (s.withFetchWord (encodeWord i).1 (encodeWord i).2)
      = exec i (s.withFetchWord (encodeWord i).1 (encodeWord i).2).advanceHost

/-! ### Whole codewords, runs and lines -/

/-- R85, R96: a fresh decoder whose source begins with a codeword of its bank, offered one bit a cycle, takes exactly as
many cycles and bits as the codeword has, and has then taken the codeword's action and no other. A codeword as
one instruction and the host are the model's (log entries 4 and 2). -/
def Obligations.CodewordConsumesExactlyItsBits : Prop :=
  ∀ (i : Instr) (cw : Codeword) (s : State) (rest : List Bool) (later : List HostMove), i.codeword = some cw →
    s.Fresh → s.color = cw.color → s.source = cw.bits ++ rest → s.script = offers cw.len ++ later →
    Host.Core.run Sys2Proof.core cw.len s
      = exec i { s with source := rest, consumed := s.consumed + cw.len, script := later }

/-- R94: makeup codes of one color, in any number and order, and then a terminating code of that color emit their exact
sum, if it fits. A codeword as one instruction is the model's (log entry 4). -/
def Obligations.MakeupChainEmitsTheSum : Prop :=
  ∀ (c : Color) (ms : List Row) (r : Row) (s : State), (∀ m ∈ ms, m ∈ makeupTable c) → r ∈ termTable c →
    s.Fresh → s.color = c → s.runAcc = 0 → (ms.map Row.run).sum + r.run < 2 ^ 32 →
    execAll (ms.map Row.instr ++ [r.instr]) s = .next
      { s with outColor := c, outLen := BitVec.ofNat 32 ((ms.map Row.run).sum + r.run), color := otherColor c,
               runAcc := 0, codeAcc := 0, codeLen := 0, st := .runComplete }

/-- R76: the expansion `RUN(c, n)` makes a fresh decoder of color `c` emit exactly one run, of length `n`, for every `n`
that the register holds. A codeword as one instruction is the model's (log entry 4). -/
def Obligations.RunExpansionEmitsTheRun : Prop :=
  ∀ (c : Color) (n : Nat) (s : State), n < 2 ^ 32 → s.Fresh → s.color = c → s.runAcc = 0 →
    execAll (runCodes c n) s = .next
      { s with outColor := c, outLen := BitVec.ofNat 32 n, color := otherColor c,
               runAcc := 0, codeAcc := 0, codeLen := 0, st := .runComplete }

/-- R76, R93, R101, R107, R142: from any state, `Start` and the expansion of a line deliver exactly its runs, in alternating
colors from white, and end in `END_OF_LINE`, in either color of the bank the EOL is read in. So does the expansion alone
from every state in which a white line can begin. A codeword as one instruction and the runs delivered are the model's (log
entries 4 and 13). -/
def Obligations.LineExpansionDeliversItsRuns : Prop :=
  (∀ (ns : List Nat) (s : State), (∀ n ∈ ns, n < 2 ^ 32) →
    ∃ t, execAll (.start :: lineCodes .white ns) s = .next t ∧
      t.lineResult = (lineRuns .white ns, .endOfLine, .none)) ∧
  (∀ (ns : List Nat) (s : State), (∀ n ∈ ns, n < 2 ^ 32) → s.Fresh → s.color = .white → s.runAcc = 0 →
    s.errCode = .none →
    ∃ t, execAll (lineCodes .white ns) s = .next t ∧
      t.lineResult = (s.delivered ++ lineRuns .white ns, .endOfLine, .none))

/-- R72, R84: a stream that begins with one of the four dead strings, read by a fresh decoder, is not noticed up to
`LMAX(color)` bits, and is `InvalidCodeword` at the bit after them. -/
def Obligations.DeadPrefixFailsAfterLmaxBits : Prop :=
  ∀ (s : State) (d tail : List Bool), s.Fresh → d ∈ deadPrefixes →
    (d ++ tail).length = lmax t4mh s.color + 1 →
    (deliverBits ((d ++ tail).take (lmax t4mh s.color)) s).st = .reading ∧
    (deliverBits (d ++ tail) s).st = .error ∧ (deliverBits (d ++ tail) s).errCode = .invalidCodeword ∧
    (deliverBits (d ++ tail) s).codeLen.toNat = lmax t4mh s.color + 1

/-- R149: a codeword attempt takes at most `LMAX(color) + 1` bits: within that many bits a reading decoder finishes a
codeword or leaves `READING`. -/
def Obligations.CodewordAttemptIsBounded : Prop :=
  ∀ (s : State) (bits : List Bool), s.Inv → s.st = .reading →
    s.codeLen.toNat + bits.length = lmax t4mh s.color + 1 →
    ∃ k, 1 ≤ k ∧ k ≤ bits.length ∧
      ((deliverBits (bits.take k) s).st ≠ .reading ∨ (deliverBits (bits.take k) s).codeLen = 0)

/-! ### Several instances -/

/-- R33, R51: a step of one instance changes no other, and the order of steps of two instances makes no difference. -/
def Obligations.InstancesDoNotInterfere : Prop :=
  (∀ (k j : Nat) (sys sys' : List State), k ≠ j → stepInstance k sys = .next sys' → sys'[j]? = sys[j]?) ∧
  (∀ (k j : Nat) (sys a b c d : List State), k ≠ j →
    stepInstance k sys = .next a → stepInstance j a = .next b →
    stepInstance j sys = .next c → stepInstance k c = .next d → b = d)

/-! ### The table as the step's parameter, and the host's duties -/

/-- R6, R29: the step of this hardware is the step over its table `T4_MH`: its instructions, its decoder's rows and the LUT
agree in every state (log entries 4 and 11). -/
def Obligations.StepIsTheStepOverItsTable : Prop := ∀ s : State, step s = stepOver t4mh s

/-- R106, R145 (the host's side is the model's: log entries 2, 3 and 20): the host raises `bit_end` only once no bit remains or
beside a bit it offers; it keeps it at 1 until `done = 1` or a `Start` or `Reset`; and a bit that it offers stays on `bit_in`
until it is consumed. -/
def Obligations.HostKeepsItsDuties : Prop :=
  ∀ s t : State, step s = .next t →
    (s.ports.bitEnd = true → s.endHeld = true ∨ s.source = [] ∨ s.ports.bitValid = true) ∧
    (s.ports.bitEnd = true → s.cycleOp ≠ .start → s.cycleOp ≠ .reset → t.outputs.done = false →
      t.ports.bitEnd = true) ∧
    (s.ports.bitValid = true → s.cycleOp ≠ .bit → t.ports.bitIn = s.ports.bitIn)
end

