-- ==== Sys2Proof/Laws/State.lean ====
section
/-! SUPPORT. What each named update of the state makes of each field. -/

namespace Sys2Proof.Machine

/-! `raiseError` -/

@[simp] theorem raiseError_st (e : ErrCode) (s : State) : (raiseError e s).st = .error := rfl
@[simp] theorem raiseError_color (e : ErrCode) (s : State) : (raiseError e s).color = s.color := rfl
@[simp] theorem raiseError_runAcc (e : ErrCode) (s : State) : (raiseError e s).runAcc = s.runAcc := rfl
@[simp] theorem raiseError_codeAcc (e : ErrCode) (s : State) : (raiseError e s).codeAcc = s.codeAcc := rfl
@[simp] theorem raiseError_codeLen (e : ErrCode) (s : State) : (raiseError e s).codeLen = s.codeLen := rfl
@[simp] theorem raiseError_outColor (e : ErrCode) (s : State) : (raiseError e s).outColor = s.outColor := rfl
@[simp] theorem raiseError_outLen (e : ErrCode) (s : State) : (raiseError e s).outLen = s.outLen := rfl
@[simp] theorem raiseError_errCode (e : ErrCode) (s : State) : (raiseError e s).errCode = e := rfl
@[simp] theorem raiseError_delivered (e : ErrCode) (s : State) : (raiseError e s).delivered = s.delivered := rfl
@[simp] theorem raiseError_source (e : ErrCode) (s : State) : (raiseError e s).source = s.source := rfl
@[simp] theorem raiseError_consumed (e : ErrCode) (s : State) : (raiseError e s).consumed = s.consumed := rfl
@[simp] theorem raiseError_script (e : ErrCode) (s : State) : (raiseError e s).script = s.script := rfl
@[simp] theorem raiseError_endHeld (e : ErrCode) (s : State) : (raiseError e s).endHeld = s.endHeld := rfl

/-! `holdCode` -/

@[simp] theorem holdCode_st (acc : CodeAcc) (len : Nat) (s : State) : (holdCode acc len s).st = s.st := rfl
@[simp] theorem holdCode_color (acc : CodeAcc) (len : Nat) (s : State) : (holdCode acc len s).color = s.color := rfl
@[simp] theorem holdCode_runAcc (acc : CodeAcc) (len : Nat) (s : State) : (holdCode acc len s).runAcc = s.runAcc := rfl
@[simp] theorem holdCode_codeAcc (acc : CodeAcc) (len : Nat) (s : State) : (holdCode acc len s).codeAcc = acc := rfl
@[simp] theorem holdCode_codeLen (acc : CodeAcc) (len : Nat) (s : State) : (holdCode acc len s).codeLen = storedLen len acc := rfl
@[simp] theorem holdCode_outColor (acc : CodeAcc) (len : Nat) (s : State) : (holdCode acc len s).outColor = s.outColor := rfl
@[simp] theorem holdCode_outLen (acc : CodeAcc) (len : Nat) (s : State) : (holdCode acc len s).outLen = s.outLen := rfl
@[simp] theorem holdCode_errCode (acc : CodeAcc) (len : Nat) (s : State) : (holdCode acc len s).errCode = s.errCode := rfl
@[simp] theorem holdCode_delivered (acc : CodeAcc) (len : Nat) (s : State) : (holdCode acc len s).delivered = s.delivered := rfl
@[simp] theorem holdCode_source (acc : CodeAcc) (len : Nat) (s : State) : (holdCode acc len s).source = s.source := rfl
@[simp] theorem holdCode_consumed (acc : CodeAcc) (len : Nat) (s : State) : (holdCode acc len s).consumed = s.consumed := rfl
@[simp] theorem holdCode_script (acc : CodeAcc) (len : Nat) (s : State) : (holdCode acc len s).script = s.script := rfl
@[simp] theorem holdCode_endHeld (acc : CodeAcc) (len : Nat) (s : State) : (holdCode acc len s).endHeld = s.endHeld := rfl

/-! `clearCode` -/

@[simp] theorem clearCode_st (s : State) : (clearCode s).st = s.st := rfl
@[simp] theorem clearCode_color (s : State) : (clearCode s).color = s.color := rfl
@[simp] theorem clearCode_runAcc (s : State) : (clearCode s).runAcc = s.runAcc := rfl
@[simp] theorem clearCode_codeAcc (s : State) : (clearCode s).codeAcc = 0 := rfl
@[simp] theorem clearCode_codeLen (s : State) : (clearCode s).codeLen = 0 := rfl
@[simp] theorem clearCode_outColor (s : State) : (clearCode s).outColor = s.outColor := rfl
@[simp] theorem clearCode_outLen (s : State) : (clearCode s).outLen = s.outLen := rfl
@[simp] theorem clearCode_errCode (s : State) : (clearCode s).errCode = s.errCode := rfl
@[simp] theorem clearCode_delivered (s : State) : (clearCode s).delivered = s.delivered := rfl
@[simp] theorem clearCode_source (s : State) : (clearCode s).source = s.source := rfl
@[simp] theorem clearCode_consumed (s : State) : (clearCode s).consumed = s.consumed := rfl
@[simp] theorem clearCode_script (s : State) : (clearCode s).script = s.script := rfl
@[simp] theorem clearCode_endHeld (s : State) : (clearCode s).endHeld = s.endHeld := rfl

/-! `emitRun` -/

@[simp] theorem emitRun_st (c : Color) (n : RunLen) (s : State) : (emitRun c n s).st = s.st := rfl
@[simp] theorem emitRun_color (c : Color) (n : RunLen) (s : State) : (emitRun c n s).color = s.color := rfl
@[simp] theorem emitRun_runAcc (c : Color) (n : RunLen) (s : State) : (emitRun c n s).runAcc = s.runAcc := rfl
@[simp] theorem emitRun_codeAcc (c : Color) (n : RunLen) (s : State) : (emitRun c n s).codeAcc = s.codeAcc := rfl
@[simp] theorem emitRun_codeLen (c : Color) (n : RunLen) (s : State) : (emitRun c n s).codeLen = s.codeLen := rfl
@[simp] theorem emitRun_outColor (c : Color) (n : RunLen) (s : State) : (emitRun c n s).outColor = c := rfl
@[simp] theorem emitRun_outLen (c : Color) (n : RunLen) (s : State) : (emitRun c n s).outLen = n := rfl
@[simp] theorem emitRun_errCode (c : Color) (n : RunLen) (s : State) : (emitRun c n s).errCode = s.errCode := rfl
@[simp] theorem emitRun_delivered (c : Color) (n : RunLen) (s : State) : (emitRun c n s).delivered = s.delivered := rfl
@[simp] theorem emitRun_source (c : Color) (n : RunLen) (s : State) : (emitRun c n s).source = s.source := rfl
@[simp] theorem emitRun_consumed (c : Color) (n : RunLen) (s : State) : (emitRun c n s).consumed = s.consumed := rfl
@[simp] theorem emitRun_script (c : Color) (n : RunLen) (s : State) : (emitRun c n s).script = s.script := rfl
@[simp] theorem emitRun_endHeld (c : Color) (n : RunLen) (s : State) : (emitRun c n s).endHeld = s.endHeld := rfl

/-! `finishRun` -/

@[simp] theorem finishRun_st (s : State) : (finishRun s).st = .runComplete := rfl
@[simp] theorem finishRun_color (s : State) : (finishRun s).color = otherColor s.color := rfl
@[simp] theorem finishRun_runAcc (s : State) : (finishRun s).runAcc = 0 := rfl
@[simp] theorem finishRun_codeAcc (s : State) : (finishRun s).codeAcc = 0 := rfl
@[simp] theorem finishRun_codeLen (s : State) : (finishRun s).codeLen = 0 := rfl
@[simp] theorem finishRun_outColor (s : State) : (finishRun s).outColor = s.outColor := rfl
@[simp] theorem finishRun_outLen (s : State) : (finishRun s).outLen = s.outLen := rfl
@[simp] theorem finishRun_errCode (s : State) : (finishRun s).errCode = s.errCode := rfl
@[simp] theorem finishRun_delivered (s : State) : (finishRun s).delivered = s.delivered := rfl
@[simp] theorem finishRun_source (s : State) : (finishRun s).source = s.source := rfl
@[simp] theorem finishRun_consumed (s : State) : (finishRun s).consumed = s.consumed := rfl
@[simp] theorem finishRun_script (s : State) : (finishRun s).script = s.script := rfl
@[simp] theorem finishRun_endHeld (s : State) : (finishRun s).endHeld = s.endHeld := rfl

/-! `raiseOverflow` -/

@[simp] theorem raiseOverflow_st (acc : CodeAcc) (len : Nat) (s : State) : (raiseOverflow acc len s).st = .error := rfl
@[simp] theorem raiseOverflow_color (acc : CodeAcc) (len : Nat) (s : State) : (raiseOverflow acc len s).color = s.color := rfl
@[simp] theorem raiseOverflow_runAcc (acc : CodeAcc) (len : Nat) (s : State) : (raiseOverflow acc len s).runAcc = s.runAcc := rfl
@[simp] theorem raiseOverflow_codeAcc (acc : CodeAcc) (len : Nat) (s : State) : (raiseOverflow acc len s).codeAcc = acc := rfl
@[simp] theorem raiseOverflow_codeLen (acc : CodeAcc) (len : Nat) (s : State) : (raiseOverflow acc len s).codeLen = storedLen len acc := rfl
@[simp] theorem raiseOverflow_outColor (acc : CodeAcc) (len : Nat) (s : State) : (raiseOverflow acc len s).outColor = s.outColor := rfl
@[simp] theorem raiseOverflow_outLen (acc : CodeAcc) (len : Nat) (s : State) : (raiseOverflow acc len s).outLen = s.outLen := rfl
@[simp] theorem raiseOverflow_errCode (acc : CodeAcc) (len : Nat) (s : State) : (raiseOverflow acc len s).errCode = .runOverflow := rfl
@[simp] theorem raiseOverflow_delivered (acc : CodeAcc) (len : Nat) (s : State) : (raiseOverflow acc len s).delivered = s.delivered := rfl
@[simp] theorem raiseOverflow_source (acc : CodeAcc) (len : Nat) (s : State) : (raiseOverflow acc len s).source = s.source := rfl
@[simp] theorem raiseOverflow_consumed (acc : CodeAcc) (len : Nat) (s : State) : (raiseOverflow acc len s).consumed = s.consumed := rfl
@[simp] theorem raiseOverflow_script (acc : CodeAcc) (len : Nat) (s : State) : (raiseOverflow acc len s).script = s.script := rfl
@[simp] theorem raiseOverflow_endHeld (acc : CodeAcc) (len : Nat) (s : State) : (raiseOverflow acc len s).endHeld = s.endHeld := rfl

/-! `eolAction` -/

@[simp] theorem eolAction_st (s : State) : (eolAction s).st = .endOfLine := rfl
@[simp] theorem eolAction_color (s : State) : (eolAction s).color = s.color := rfl
@[simp] theorem eolAction_runAcc (s : State) : (eolAction s).runAcc = s.runAcc := rfl
@[simp] theorem eolAction_codeAcc (s : State) : (eolAction s).codeAcc = 0 := rfl
@[simp] theorem eolAction_codeLen (s : State) : (eolAction s).codeLen = 0 := rfl
@[simp] theorem eolAction_outColor (s : State) : (eolAction s).outColor = s.outColor := rfl
@[simp] theorem eolAction_outLen (s : State) : (eolAction s).outLen = s.outLen := rfl
@[simp] theorem eolAction_errCode (s : State) : (eolAction s).errCode = s.errCode := rfl
@[simp] theorem eolAction_delivered (s : State) : (eolAction s).delivered = s.delivered := rfl
@[simp] theorem eolAction_source (s : State) : (eolAction s).source = s.source := rfl
@[simp] theorem eolAction_consumed (s : State) : (eolAction s).consumed = s.consumed := rfl
@[simp] theorem eolAction_script (s : State) : (eolAction s).script = s.script := rfl
@[simp] theorem eolAction_endHeld (s : State) : (eolAction s).endHeld = s.endHeld := rfl

/-! `freshLine` -/

@[simp] theorem freshLine_st (s : State) : (freshLine s).st = .reading := rfl
@[simp] theorem freshLine_color (s : State) : (freshLine s).color = .white := rfl
@[simp] theorem freshLine_runAcc (s : State) : (freshLine s).runAcc = 0 := rfl
@[simp] theorem freshLine_codeAcc (s : State) : (freshLine s).codeAcc = 0 := rfl
@[simp] theorem freshLine_codeLen (s : State) : (freshLine s).codeLen = 0 := rfl
@[simp] theorem freshLine_outColor (s : State) : (freshLine s).outColor = .white := rfl
@[simp] theorem freshLine_outLen (s : State) : (freshLine s).outLen = 0 := rfl
@[simp] theorem freshLine_errCode (s : State) : (freshLine s).errCode = .none := rfl
@[simp] theorem freshLine_delivered (s : State) : (freshLine s).delivered = [] := rfl
@[simp] theorem freshLine_source (s : State) : (freshLine s).source = s.source := rfl
@[simp] theorem freshLine_consumed (s : State) : (freshLine s).consumed = s.consumed := rfl
@[simp] theorem freshLine_script (s : State) : (freshLine s).script = s.script := rfl
@[simp] theorem freshLine_endHeld (s : State) : (freshLine s).endHeld = s.endHeld := rfl

/-! `advanceHost` -/

@[simp] theorem advanceHost_st (s : State) : (s.advanceHost).st = s.st := rfl
@[simp] theorem advanceHost_color (s : State) : (s.advanceHost).color = s.color := rfl
@[simp] theorem advanceHost_runAcc (s : State) : (s.advanceHost).runAcc = s.runAcc := rfl
@[simp] theorem advanceHost_codeAcc (s : State) : (s.advanceHost).codeAcc = s.codeAcc := rfl
@[simp] theorem advanceHost_codeLen (s : State) : (s.advanceHost).codeLen = s.codeLen := rfl
@[simp] theorem advanceHost_outColor (s : State) : (s.advanceHost).outColor = s.outColor := rfl
@[simp] theorem advanceHost_outLen (s : State) : (s.advanceHost).outLen = s.outLen := rfl
@[simp] theorem advanceHost_errCode (s : State) : (s.advanceHost).errCode = s.errCode := rfl
@[simp] theorem advanceHost_delivered (s : State) : (s.advanceHost).delivered = s.delivered := rfl
@[simp] theorem advanceHost_source (s : State) : (s.advanceHost).source = s.sourceAfter := rfl
@[simp] theorem advanceHost_consumed (s : State) : (s.advanceHost).consumed = s.consumedAfter := rfl
@[simp] theorem advanceHost_script (s : State) : (s.advanceHost).script = s.script.tail := rfl
@[simp] theorem advanceHost_endHeld (s : State) : (s.advanceHost).endHeld = s.endHeldAfter := rfl

end Sys2Proof.Machine
end

