-- ==== Sys2Proof/Laws/Lut.lean ====
section
/-! SUPPORT. The lookup: what `lutRead` answers, for any table and for `T4_MH`. -/

namespace Sys2Proof.Machine

theorem lmax_white : lmax t4mh .white = 12 := by decide +kernel

theorem lmax_black : lmax t4mh .black = 13 := by decide +kernel

theorem lmax_le (c : Color) : lmax t4mh c ≤ 13 := by
  cases c <;> simp [lmax_white, lmax_black]

theorem lmax_ge (c : Color) : 12 ≤ lmax t4mh c := by
  cases c <;> simp [lmax_white, lmax_black]

/-- The comparison of a lookup reads only the low bits of the pattern (R43). -/
theorem lutMatches_low {len : Nat} {p q : CodeAcc} (h : p.toNat % 2 ^ len = q.toNat % 2 ^ len) :
    lutMatches len p = lutMatches len q := by
  funext w; simp [lutMatches, h]

/-- A lookup reads only the low bits of the pattern (R43). -/
theorem lutRead_low (t : LutTable) (c : Color) {len : Nat} {p q : CodeAcc}
    (h : p.toNat % 2 ^ len = q.toNat % 2 ^ len) : lutRead t c len p = lutRead t c len q := by
  simp [lutRead, lutMatches_low h]

theorem lutMatches_iff (len : Nat) (p : CodeAcc) (w : LutWord) :
    lutMatches len p w = true ↔
      lutKind w ≠ .empty ∧ lutBitLength w = len ∧ (lutPattern w).toNat = p.toNat % 2 ^ len := by
  simp [lutMatches, and_assoc]

/-- A hit is a word of the bank that matches, at a length of 1 to 13. -/
theorem lutRead_some {t : LutTable} {c : Color} {len : Nat} {p : CodeAcc} {e : LutEntry}
    (h : lutRead t c len p = some e) :
    1 ≤ len ∧ len ≤ 13 ∧ ∃ w ∈ bankOf t c, e = entryOf w ∧ lutKind w ≠ .empty ∧ lutBitLength w = len ∧
      (lutPattern w).toNat = p.toNat % 2 ^ len := by
  unfold lutRead at h
  split at h
  · cases h
  · rename_i hl
    split at h
    · rename_i w hw
      have hm : w ∈ (bankOf t c).filter (lutMatches len p) := by simp [hw]
      obtain ⟨hb, hm⟩ := List.mem_filter.1 hm
      exact ⟨by omega, by omega, w, hb, (Option.some.inj h).symm, (lutMatches_iff _ _ _).1 hm⟩
    · cases h

/-- A hit is never an `EMPTY` word (R43). -/
theorem kind_of_hit {t : LutTable} {c : Color} {len : Nat} {p : CodeAcc} {e : LutEntry}
    (h : lutRead t c len p = some e) : e.kind ≠ .empty := by
  obtain ⟨-, -, w, -, rfl, hk, -⟩ := lutRead_some h
  exact hk

/-- A hit is an entry of the bank of this length. -/
theorem entry_of_hit {t : LutTable} {c : Color} {len : Nat} {p : CodeAcc} {e : LutEntry}
    (h : lutRead t c len p = some e) : e ∈ t.entries c ∧ e.bitLength = len := by
  obtain ⟨-, -, w, hw, rfl, hk, hl, -⟩ := lutRead_some h
  refine ⟨?_, hl⟩
  simp only [LutTable.entries, List.mem_filter, List.mem_map, decide_eq_true_eq]
  exact ⟨⟨w, hw, rfl⟩, hk⟩

/-- `LMAX` is at most what every entry of the bank is at most. -/
theorem lmax_le_of_entries {t : LutTable} {c : Color} {n : Nat} (h : ∀ e ∈ t.entries c, e.bitLength ≤ n) :
    lmax t c ≤ n := by
  have key : ∀ (l : List LutWord) (m : Nat), m ≤ n → (∀ w ∈ l, lutBitLength w ≤ n) →
      l.foldl (fun m w => max m (lutBitLength w)) m ≤ n := by
    intro l
    induction l with
    | nil => intro m hm _; exact hm
    | cons w ws ih =>
      intro m hm hw
      exact ih _ (max_le hm (hw w (by simp))) fun v hv => hw v (by simp [hv])
  refine key _ 0 (Nat.zero_le n) fun w hw => ?_
  obtain ⟨hb, hk⟩ := List.mem_filter.1 hw
  refine h (entryOf w) ?_
  simp only [LutTable.entries, List.mem_filter, List.mem_map]
  exact ⟨⟨w, hb, rfl⟩, hk⟩

/-- The ranges of the entries of a bank, as a check of its words (R65 (c), R44). -/
def rangeCheck (c : Color) (longest : Nat) : Bool :=
  (bankOf t4mh c).all fun w =>
    decide (2 ≤ lutBitLength w) && decide (lutBitLength w ≤ longest) && decide (lutKind w ≠ .empty) &&
    decide (lutKind w = .term → runLengthOf (entryOf w) ≤ 63) &&
    decide (lutKind w = .makeup → runLengthOf (entryOf w) % 64 = 0 ∧ runLengthOf (entryOf w) ≤ 2560)

theorem rangeCheck_white : rangeCheck .white 12 = true := by decide +kernel

theorem rangeCheck_black : rangeCheck .black 13 = true := by decide +kernel

/-- What an entry of `T4_MH` can be (R65 (c)): its length is at most `LMAX`; a terminating code has a run length up to 63,
a makeup code a multiple of 64 up to 2560; it is not `EMPTY`. -/
theorem entry_range {c : Color} {w : LutWord} (h : w ∈ bankOf t4mh c) :
    2 ≤ lutBitLength w ∧ lutBitLength w ≤ lmax t4mh c ∧ lutKind w ≠ .empty ∧
    (lutKind w = .term → runLengthOf (entryOf w) ≤ 63) ∧
    (lutKind w = .makeup → runLengthOf (entryOf w) % 64 = 0 ∧ runLengthOf (entryOf w) ≤ 2560) := by
  have hall : rangeCheck c (lmax t4mh c) = true := by
    cases c
    · rw [lmax_white]; exact rangeCheck_white
    · rw [lmax_black]; exact rangeCheck_black
  have hw := List.all_eq_true.1 hall w h
  simp only [Bool.and_eq_true, decide_eq_true_eq] at hw
  obtain ⟨⟨⟨⟨h1, h2⟩, h3⟩, h4⟩, h5⟩ := hw
  exact ⟨h1, h2, h3, h4, h5⟩

/-- No lookup hits above the longest codeword of the bank. -/
theorem lutRead_above_lmax {c : Color} {len : Nat} (p : CodeAcc) (h : lmax t4mh c < len) :
    lutRead t4mh c len p = none := by
  cases hr : lutRead t4mh c len p with
  | none => rfl
  | some e =>
    obtain ⟨-, -, w, hw, -, -, hl, -⟩ := lutRead_some hr
    have := (entry_range hw).2.1
    omega

/-- Everything a hit of `T4_MH` says of the entry. -/
theorem hit_range {c : Color} {len : Nat} {p : CodeAcc} {e : LutEntry} (h : lutRead t4mh c len p = some e) :
    2 ≤ len ∧ len ≤ lmax t4mh c ∧ e.bitLength = len ∧ e.pattern.toNat = p.toNat % 2 ^ len ∧ e.kind ≠ .empty ∧
    (e.kind = .term → runLengthOf e ≤ 63) ∧ (e.kind = .makeup → runLengthOf e % 64 = 0 ∧ runLengthOf e ≤ 2560) := by
  obtain ⟨-, -, w, hw, rfl, -, hl, hp⟩ := lutRead_some h
  obtain ⟨h1, h2, h3, h4, h5⟩ := entry_range hw
  exact ⟨hl ▸ h1, hl ▸ h2, hl, hp, h3, h4, h5⟩

/-- The check of all pairs of a list (R65 (a), (b)) as the library's notion. -/
theorem allPairs_iff (ok : LutEntry → LutEntry → Bool) (l : List LutEntry) :
    allPairs ok l = true ↔ l.Pairwise fun e f => ok e f = true := by
  induction l with
  | nil => simp [allPairs]
  | cons e es ih => simp [allPairs, ih, List.all_eq_true]

end Sys2Proof.Machine
end

