-- ==== Sys2Proof/Laws/Codewords.lean ====
section
/-! SUPPORT. The codewords: each with its LUT entry; the decoder's rows and the LUT agree; and what one bit of an awaited
codeword does. -/

namespace Sys2Proof.Machine

/-- The LUT entry of a codeword instruction (R66 to R71); a host operation has none and is given the empty one. -/
def entryOfInstr : Instr → LutEntry
  | .wT0 => ⟨.term, 8, 0x035, false, 0⟩
  | .wT1 => ⟨.term, 6, 0x007, false, 1⟩
  | .wT2 => ⟨.term, 4, 0x007, false, 2⟩
  | .wT3 => ⟨.term, 4, 0x008, false, 3⟩
  | .wT4 => ⟨.term, 4, 0x00B, false, 4⟩
  | .wT5 => ⟨.term, 4, 0x00C, false, 5⟩
  | .wT6 => ⟨.term, 4, 0x00E, false, 6⟩
  | .wT7 => ⟨.term, 4, 0x00F, false, 7⟩
  | .wT8 => ⟨.term, 5, 0x013, false, 8⟩
  | .wT9 => ⟨.term, 5, 0x014, false, 9⟩
  | .wT10 => ⟨.term, 5, 0x007, false, 10⟩
  | .wT11 => ⟨.term, 5, 0x008, false, 11⟩
  | .wT12 => ⟨.term, 6, 0x008, false, 12⟩
  | .wT13 => ⟨.term, 6, 0x003, false, 13⟩
  | .wT14 => ⟨.term, 6, 0x034, false, 14⟩
  | .wT15 => ⟨.term, 6, 0x035, false, 15⟩
  | .wT16 => ⟨.term, 6, 0x02A, false, 16⟩
  | .wT17 => ⟨.term, 6, 0x02B, false, 17⟩
  | .wT18 => ⟨.term, 7, 0x027, false, 18⟩
  | .wT19 => ⟨.term, 7, 0x00C, false, 19⟩
  | .wT20 => ⟨.term, 7, 0x008, false, 20⟩
  | .wT21 => ⟨.term, 7, 0x017, false, 21⟩
  | .wT22 => ⟨.term, 7, 0x003, false, 22⟩
  | .wT23 => ⟨.term, 7, 0x004, false, 23⟩
  | .wT24 => ⟨.term, 7, 0x028, false, 24⟩
  | .wT25 => ⟨.term, 7, 0x02B, false, 25⟩
  | .wT26 => ⟨.term, 7, 0x013, false, 26⟩
  | .wT27 => ⟨.term, 7, 0x024, false, 27⟩
  | .wT28 => ⟨.term, 7, 0x018, false, 28⟩
  | .wT29 => ⟨.term, 8, 0x002, false, 29⟩
  | .wT30 => ⟨.term, 8, 0x003, false, 30⟩
  | .wT31 => ⟨.term, 8, 0x01A, false, 31⟩
  | .wT32 => ⟨.term, 8, 0x01B, false, 32⟩
  | .wT33 => ⟨.term, 8, 0x012, false, 33⟩
  | .wT34 => ⟨.term, 8, 0x013, false, 34⟩
  | .wT35 => ⟨.term, 8, 0x014, false, 35⟩
  | .wT36 => ⟨.term, 8, 0x015, false, 36⟩
  | .wT37 => ⟨.term, 8, 0x016, false, 37⟩
  | .wT38 => ⟨.term, 8, 0x017, false, 38⟩
  | .wT39 => ⟨.term, 8, 0x028, false, 39⟩
  | .wT40 => ⟨.term, 8, 0x029, false, 40⟩
  | .wT41 => ⟨.term, 8, 0x02A, false, 41⟩
  | .wT42 => ⟨.term, 8, 0x02B, false, 42⟩
  | .wT43 => ⟨.term, 8, 0x02C, false, 43⟩
  | .wT44 => ⟨.term, 8, 0x02D, false, 44⟩
  | .wT45 => ⟨.term, 8, 0x004, false, 45⟩
  | .wT46 => ⟨.term, 8, 0x005, false, 46⟩
  | .wT47 => ⟨.term, 8, 0x00A, false, 47⟩
  | .wT48 => ⟨.term, 8, 0x00B, false, 48⟩
  | .wT49 => ⟨.term, 8, 0x052, false, 49⟩
  | .wT50 => ⟨.term, 8, 0x053, false, 50⟩
  | .wT51 => ⟨.term, 8, 0x054, false, 51⟩
  | .wT52 => ⟨.term, 8, 0x055, false, 52⟩
  | .wT53 => ⟨.term, 8, 0x024, false, 53⟩
  | .wT54 => ⟨.term, 8, 0x025, false, 54⟩
  | .wT55 => ⟨.term, 8, 0x058, false, 55⟩
  | .wT56 => ⟨.term, 8, 0x059, false, 56⟩
  | .wT57 => ⟨.term, 8, 0x05A, false, 57⟩
  | .wT58 => ⟨.term, 8, 0x05B, false, 58⟩
  | .wT59 => ⟨.term, 8, 0x04A, false, 59⟩
  | .wT60 => ⟨.term, 8, 0x04B, false, 60⟩
  | .wT61 => ⟨.term, 8, 0x032, false, 61⟩
  | .wT62 => ⟨.term, 8, 0x033, false, 62⟩
  | .wT63 => ⟨.term, 8, 0x034, false, 63⟩
  | .wM64 => ⟨.makeup, 5, 0x01B, false, 64⟩
  | .wM128 => ⟨.makeup, 5, 0x012, false, 128⟩
  | .wM192 => ⟨.makeup, 6, 0x017, false, 192⟩
  | .wM256 => ⟨.makeup, 7, 0x037, false, 256⟩
  | .wM320 => ⟨.makeup, 8, 0x036, false, 320⟩
  | .wM384 => ⟨.makeup, 8, 0x037, false, 384⟩
  | .wM448 => ⟨.makeup, 8, 0x064, false, 448⟩
  | .wM512 => ⟨.makeup, 8, 0x065, false, 512⟩
  | .wM576 => ⟨.makeup, 8, 0x068, false, 576⟩
  | .wM640 => ⟨.makeup, 8, 0x067, false, 640⟩
  | .wM704 => ⟨.makeup, 9, 0x0CC, false, 704⟩
  | .wM768 => ⟨.makeup, 9, 0x0CD, false, 768⟩
  | .wM832 => ⟨.makeup, 9, 0x0D2, false, 832⟩
  | .wM896 => ⟨.makeup, 9, 0x0D3, false, 896⟩
  | .wM960 => ⟨.makeup, 9, 0x0D4, false, 960⟩
  | .wM1024 => ⟨.makeup, 9, 0x0D5, false, 1024⟩
  | .wM1088 => ⟨.makeup, 9, 0x0D6, false, 1088⟩
  | .wM1152 => ⟨.makeup, 9, 0x0D7, false, 1152⟩
  | .wM1216 => ⟨.makeup, 9, 0x0D8, false, 1216⟩
  | .wM1280 => ⟨.makeup, 9, 0x0D9, false, 1280⟩
  | .wM1344 => ⟨.makeup, 9, 0x0DA, false, 1344⟩
  | .wM1408 => ⟨.makeup, 9, 0x0DB, false, 1408⟩
  | .wM1472 => ⟨.makeup, 9, 0x098, false, 1472⟩
  | .wM1536 => ⟨.makeup, 9, 0x099, false, 1536⟩
  | .wM1600 => ⟨.makeup, 9, 0x09A, false, 1600⟩
  | .wM1664 => ⟨.makeup, 6, 0x018, false, 1664⟩
  | .wM1728 => ⟨.makeup, 9, 0x09B, false, 1728⟩
  | .wX1792 => ⟨.makeup, 11, 0x008, true, 1792⟩
  | .wX1856 => ⟨.makeup, 11, 0x00C, true, 1856⟩
  | .wX1920 => ⟨.makeup, 11, 0x00D, true, 1920⟩
  | .wX1984 => ⟨.makeup, 12, 0x012, true, 1984⟩
  | .wX2048 => ⟨.makeup, 12, 0x013, true, 2048⟩
  | .wX2112 => ⟨.makeup, 12, 0x014, true, 2112⟩
  | .wX2176 => ⟨.makeup, 12, 0x015, true, 2176⟩
  | .wX2240 => ⟨.makeup, 12, 0x016, true, 2240⟩
  | .wX2304 => ⟨.makeup, 12, 0x017, true, 2304⟩
  | .wX2368 => ⟨.makeup, 12, 0x01C, true, 2368⟩
  | .wX2432 => ⟨.makeup, 12, 0x01D, true, 2432⟩
  | .wX2496 => ⟨.makeup, 12, 0x01E, true, 2496⟩
  | .wX2560 => ⟨.makeup, 12, 0x01F, true, 2560⟩
  | .bT0 => ⟨.term, 10, 0x037, false, 0⟩
  | .bT1 => ⟨.term, 3, 0x002, false, 1⟩
  | .bT2 => ⟨.term, 2, 0x003, false, 2⟩
  | .bT3 => ⟨.term, 2, 0x002, false, 3⟩
  | .bT4 => ⟨.term, 3, 0x003, false, 4⟩
  | .bT5 => ⟨.term, 4, 0x003, false, 5⟩
  | .bT6 => ⟨.term, 4, 0x002, false, 6⟩
  | .bT7 => ⟨.term, 5, 0x003, false, 7⟩
  | .bT8 => ⟨.term, 6, 0x005, false, 8⟩
  | .bT9 => ⟨.term, 6, 0x004, false, 9⟩
  | .bT10 => ⟨.term, 7, 0x004, false, 10⟩
  | .bT11 => ⟨.term, 7, 0x005, false, 11⟩
  | .bT12 => ⟨.term, 7, 0x007, false, 12⟩
  | .bT13 => ⟨.term, 8, 0x004, false, 13⟩
  | .bT14 => ⟨.term, 8, 0x007, false, 14⟩
  | .bT15 => ⟨.term, 9, 0x018, false, 15⟩
  | .bT16 => ⟨.term, 10, 0x017, false, 16⟩
  | .bT17 => ⟨.term, 10, 0x018, false, 17⟩
  | .bT18 => ⟨.term, 10, 0x008, false, 18⟩
  | .bT19 => ⟨.term, 11, 0x067, false, 19⟩
  | .bT20 => ⟨.term, 11, 0x068, false, 20⟩
  | .bT21 => ⟨.term, 11, 0x06C, false, 21⟩
  | .bT22 => ⟨.term, 11, 0x037, false, 22⟩
  | .bT23 => ⟨.term, 11, 0x028, false, 23⟩
  | .bT24 => ⟨.term, 11, 0x017, false, 24⟩
  | .bT25 => ⟨.term, 11, 0x018, false, 25⟩
  | .bT26 => ⟨.term, 12, 0x0CA, false, 26⟩
  | .bT27 => ⟨.term, 12, 0x0CB, false, 27⟩
  | .bT28 => ⟨.term, 12, 0x0CC, false, 28⟩
  | .bT29 => ⟨.term, 12, 0x0CD, false, 29⟩
  | .bT30 => ⟨.term, 12, 0x068, false, 30⟩
  | .bT31 => ⟨.term, 12, 0x069, false, 31⟩
  | .bT32 => ⟨.term, 12, 0x06A, false, 32⟩
  | .bT33 => ⟨.term, 12, 0x06B, false, 33⟩
  | .bT34 => ⟨.term, 12, 0x0D2, false, 34⟩
  | .bT35 => ⟨.term, 12, 0x0D3, false, 35⟩
  | .bT36 => ⟨.term, 12, 0x0D4, false, 36⟩
  | .bT37 => ⟨.term, 12, 0x0D5, false, 37⟩
  | .bT38 => ⟨.term, 12, 0x0D6, false, 38⟩
  | .bT39 => ⟨.term, 12, 0x0D7, false, 39⟩
  | .bT40 => ⟨.term, 12, 0x06C, false, 40⟩
  | .bT41 => ⟨.term, 12, 0x06D, false, 41⟩
  | .bT42 => ⟨.term, 12, 0x0DA, false, 42⟩
  | .bT43 => ⟨.term, 12, 0x0DB, false, 43⟩
  | .bT44 => ⟨.term, 12, 0x054, false, 44⟩
  | .bT45 => ⟨.term, 12, 0x055, false, 45⟩
  | .bT46 => ⟨.term, 12, 0x056, false, 46⟩
  | .bT47 => ⟨.term, 12, 0x057, false, 47⟩
  | .bT48 => ⟨.term, 12, 0x064, false, 48⟩
  | .bT49 => ⟨.term, 12, 0x065, false, 49⟩
  | .bT50 => ⟨.term, 12, 0x052, false, 50⟩
  | .bT51 => ⟨.term, 12, 0x053, false, 51⟩
  | .bT52 => ⟨.term, 12, 0x024, false, 52⟩
  | .bT53 => ⟨.term, 12, 0x037, false, 53⟩
  | .bT54 => ⟨.term, 12, 0x038, false, 54⟩
  | .bT55 => ⟨.term, 12, 0x027, false, 55⟩
  | .bT56 => ⟨.term, 12, 0x028, false, 56⟩
  | .bT57 => ⟨.term, 12, 0x058, false, 57⟩
  | .bT58 => ⟨.term, 12, 0x059, false, 58⟩
  | .bT59 => ⟨.term, 12, 0x02B, false, 59⟩
  | .bT60 => ⟨.term, 12, 0x02C, false, 60⟩
  | .bT61 => ⟨.term, 12, 0x05A, false, 61⟩
  | .bT62 => ⟨.term, 12, 0x066, false, 62⟩
  | .bT63 => ⟨.term, 12, 0x067, false, 63⟩
  | .bM64 => ⟨.makeup, 10, 0x00F, false, 64⟩
  | .bM128 => ⟨.makeup, 12, 0x0C8, false, 128⟩
  | .bM192 => ⟨.makeup, 12, 0x0C9, false, 192⟩
  | .bM256 => ⟨.makeup, 12, 0x05B, false, 256⟩
  | .bM320 => ⟨.makeup, 12, 0x033, false, 320⟩
  | .bM384 => ⟨.makeup, 12, 0x034, false, 384⟩
  | .bM448 => ⟨.makeup, 12, 0x035, false, 448⟩
  | .bM512 => ⟨.makeup, 13, 0x06C, false, 512⟩
  | .bM576 => ⟨.makeup, 13, 0x06D, false, 576⟩
  | .bM640 => ⟨.makeup, 13, 0x04A, false, 640⟩
  | .bM704 => ⟨.makeup, 13, 0x04B, false, 704⟩
  | .bM768 => ⟨.makeup, 13, 0x04C, false, 768⟩
  | .bM832 => ⟨.makeup, 13, 0x04D, false, 832⟩
  | .bM896 => ⟨.makeup, 13, 0x072, false, 896⟩
  | .bM960 => ⟨.makeup, 13, 0x073, false, 960⟩
  | .bM1024 => ⟨.makeup, 13, 0x074, false, 1024⟩
  | .bM1088 => ⟨.makeup, 13, 0x075, false, 1088⟩
  | .bM1152 => ⟨.makeup, 13, 0x076, false, 1152⟩
  | .bM1216 => ⟨.makeup, 13, 0x077, false, 1216⟩
  | .bM1280 => ⟨.makeup, 13, 0x052, false, 1280⟩
  | .bM1344 => ⟨.makeup, 13, 0x053, false, 1344⟩
  | .bM1408 => ⟨.makeup, 13, 0x054, false, 1408⟩
  | .bM1472 => ⟨.makeup, 13, 0x055, false, 1472⟩
  | .bM1536 => ⟨.makeup, 13, 0x05A, false, 1536⟩
  | .bM1600 => ⟨.makeup, 13, 0x05B, false, 1600⟩
  | .bM1664 => ⟨.makeup, 13, 0x064, false, 1664⟩
  | .bM1728 => ⟨.makeup, 13, 0x065, false, 1728⟩
  | .bX1792 => ⟨.makeup, 11, 0x008, true, 1792⟩
  | .bX1856 => ⟨.makeup, 11, 0x00C, true, 1856⟩
  | .bX1920 => ⟨.makeup, 11, 0x00D, true, 1920⟩
  | .bX1984 => ⟨.makeup, 12, 0x012, true, 1984⟩
  | .bX2048 => ⟨.makeup, 12, 0x013, true, 2048⟩
  | .bX2112 => ⟨.makeup, 12, 0x014, true, 2112⟩
  | .bX2176 => ⟨.makeup, 12, 0x015, true, 2176⟩
  | .bX2240 => ⟨.makeup, 12, 0x016, true, 2240⟩
  | .bX2304 => ⟨.makeup, 12, 0x017, true, 2304⟩
  | .bX2368 => ⟨.makeup, 12, 0x01C, true, 2368⟩
  | .bX2432 => ⟨.makeup, 12, 0x01D, true, 2432⟩
  | .bX2496 => ⟨.makeup, 12, 0x01E, true, 2496⟩
  | .bX2560 => ⟨.makeup, 12, 0x01F, true, 2560⟩
  | .wEol => ⟨.eol, 12, 0x001, false, 4095⟩
  | .bEol => ⟨.eol, 12, 0x001, false, 4095⟩
  | .reset => ⟨.empty, 0, 0, false, 0⟩
  | .start => ⟨.empty, 0, 0, false, 0⟩
  | .bit _ => ⟨.empty, 0, 0, false, 0⟩
  | .endData => ⟨.empty, 0, 0, false, 0⟩
  | .accept => ⟨.empty, 0, 0, false, 0⟩
  | .idle => ⟨.empty, 0, 0, false, 0⟩

/-- A codeword's meaning is its entry's action at the end of its bits. -/
theorem exec_codeword {i : Instr} {cw : Codeword} (h : i.codeword = some cw) (s : State) :
    exec i s = .next (readCodeword cw (entryAction (entryOfInstr i)) s) := by
  cases i <;> cases h <;> rfl

theorem exec_awaited {i : Instr} {cw : Codeword} {s : State} (h : i.codeword = some cw) (ha : s.awaits cw = true) :
    exec i s = .next (entryAction (entryOfInstr i) (s.accAtEnd cw) cw.len s) := by
  rw [exec_codeword h, readCodeword, if_pos ha]

theorem exec_unawaited {i : Instr} {cw : Codeword} {s : State} (h : i.codeword = some cw)
    (ha : s.awaits cw = false) : exec i s = .next (deliverBits cw.bits s) := by
  rw [exec_codeword h, readCodeword, if_neg (by simp [ha])]

/-- The facts about a codeword that its bank's words and rows decide. -/
def codewordCheck (i : Instr) : Bool :=
  match i.codeword with
  | none => true
  | some cw =>
    cw.wellFormed && decide (cw.len ≤ lmax t4mh cw.color) &&
    (lutRead t4mh cw.color cw.len (cw.pattern.setWidth 14) == some (entryOfInstr i)) &&
    (codeAt cw.color cw.len cw.pattern.toNat == some i)

/-- The codeword instructions of the white bank. -/
def whiteInstrs : List Instr :=
  [.wT2, .wT3, .wT4, .wT5, .wT6, .wT7, .wT10, .wT11, .wM128, .wT8, .wT9, .wM64,
   .wT13, .wT1, .wT12, .wM192, .wM1664, .wT16, .wT17, .wT14, .wT15, .wT22, .wT23, .wT20,
   .wT19, .wT26, .wT21, .wT28, .wT27, .wT18, .wT24, .wT25, .wM256, .wT29, .wT30, .wT45,
   .wT46, .wT47, .wT48, .wT33, .wT34, .wT35, .wT36, .wT37, .wT38, .wT31, .wT32, .wT53,
   .wT54, .wT39, .wT40, .wT41, .wT42, .wT43, .wT44, .wT61, .wT62, .wT63, .wT0, .wM320,
   .wM384, .wT59, .wT60, .wT49, .wT50, .wT51, .wT52, .wT55, .wT56, .wT57, .wT58, .wM448,
   .wM512, .wM640, .wM576, .wM1472, .wM1536, .wM1600, .wM1728, .wM704, .wM768, .wM832, .wM896, .wM960,
   .wM1024, .wM1088, .wM1152, .wM1216, .wM1280, .wM1344, .wM1408, .wX1792, .wX1856, .wX1920, .wEol, .wX1984,
   .wX2048, .wX2112, .wX2176, .wX2240, .wX2304, .wX2368, .wX2432, .wX2496, .wX2560]

/-- The codeword instructions of the black bank. -/
def blackInstrs : List Instr :=
  [.bT3, .bT2, .bT1, .bT4, .bT6, .bT5, .bT7, .bT9, .bT8, .bT10, .bT11, .bT12,
   .bT13, .bT14, .bT15, .bT18, .bM64, .bT16, .bT17, .bT0, .bX1792, .bX1856, .bX1920, .bT24,
   .bT25, .bT23, .bT22, .bT19, .bT20, .bT21, .bEol, .bX1984, .bX2048, .bX2112, .bX2176, .bX2240,
   .bX2304, .bX2368, .bX2432, .bX2496, .bX2560, .bT52, .bT55, .bT56, .bT59, .bT60, .bM320, .bM384,
   .bM448, .bT53, .bT54, .bT50, .bT51, .bT44, .bT45, .bT46, .bT47, .bT57, .bT58, .bT61,
   .bM256, .bT48, .bT49, .bT62, .bT63, .bT30, .bT31, .bT32, .bT33, .bT40, .bT41, .bM128,
   .bM192, .bT26, .bT27, .bT28, .bT29, .bT34, .bT35, .bT36, .bT37, .bT38, .bT39, .bT42,
   .bT43, .bM640, .bM704, .bM768, .bM832, .bM1280, .bM1344, .bM1408, .bM1472, .bM1536, .bM1600, .bM1664,
   .bM1728, .bM512, .bM576, .bM896, .bM960, .bM1024, .bM1088, .bM1152, .bM1216]

/-- The codeword instructions of a bank. -/
def bankInstrs : Color → List Instr
  | .white => whiteInstrs
  | .black => blackInstrs

theorem bankInstrs_check (c : Color) : (bankInstrs c).all codewordCheck = true := by
  cases c <;> decide +kernel

/-- A codeword instruction has a row in its bank. -/
theorem mem_bankInstrs {i : Instr} {cw : Codeword} (h : i.codeword = some cw) : i ∈ bankInstrs cw.color := by
  cases i <;> cases h <;> exact List.mem_of_elem_eq_true (by decide +kernel)

theorem codeword_facts {i : Instr} {cw : Codeword} (h : i.codeword = some cw) :
    2 ≤ cw.len ∧ cw.len ≤ lmax t4mh cw.color ∧ cw.pattern.toNat < 2 ^ cw.len ∧
    lutRead t4mh cw.color cw.len (cw.pattern.setWidth 14) = some (entryOfInstr i) ∧
    codeAt cw.color cw.len cw.pattern.toNat = some i := by
  have hc := List.all_eq_true.1 (bankInstrs_check cw.color) i (mem_bankInstrs h)
  simp only [codewordCheck, h, Bool.and_eq_true, decide_eq_true_eq, beq_iff_eq, Codeword.wellFormed] at hc
  obtain ⟨⟨⟨⟨⟨h1, -⟩, h2⟩, h3⟩, h4⟩, h5⟩ := hc
  exact ⟨h1, h3, h2, h4, h5⟩

/-- The length and the bits of an instruction's codeword; a host operation counts as the empty string. -/
def codeOf (i : Instr) : Nat × Nat := (i.codeword.map fun cw => (cw.len, cw.pattern.toNat)).getD (0, 0)

/-- No codeword of a list is the leading bits of a longer one. -/
def noLeadingBits (l : List (Nat × Nat)) : Bool :=
  l.all fun a => l.all fun b => !(a.1.blt b.1 && (b.2 / 2 ^ (b.1 - a.1)).beq a.2)

theorem noLeadingBits_all (c : Color) : noLeadingBits ((bankInstrs c).map codeOf) = true := by
  cases c <;> decide +kernel

/-- Every row of a bank is the match and the mask of its instruction's codeword (R64). -/
def rowCheck (c : Color) : Bool :=
  (codeRows c).all fun r =>
    match r.instr.codeword with
    | some cw => cw.color == c && r.mask.toNat == windowMask cw.len &&
        r.mtch.toNat == windowMatch cw.len cw.pattern.toNat
    | none => false

theorem rowCheck_all (c : Color) : rowCheck c = true := by cases c <;> decide +kernel

/-- Every word of a bank is the entry of the codeword that its length and pattern are. -/
def wordCheck (c : Color) : Bool :=
  (bankOf t4mh c).all fun w =>
    (codeAt c (lutBitLength w) (lutPattern w).toNat).map entryOfInstr == some (entryOf w)

theorem wordCheck_all (c : Color) : wordCheck c = true := by cases c <;> decide +kernel

theorem windowMask_inj {m n : Nat} (hm : m ≤ 13) (h : windowMask m = windowMask n) : m = n := by
  by_cases hn : n ≤ 13
  · have hall : ∀ m < 14, ∀ n < 14, windowMask m = windowMask n → m = n := by decide +kernel
    exact hall m (by omega) n (by omega) h
  · have h1 : 2 ^ 14 ≤ 2 ^ n := Nat.pow_le_pow_right (by norm_num) (by omega)
    have h2 : 13 - n = 0 := by omega
    have h3 : ∀ m < 14, windowMask m < 2 ^ 13 := by decide +kernel
    have h3 := h3 m (by omega)
    rw [h] at h3
    simp only [windowMask, h2] at h3
    omega

/-- The row that a length and a pattern select is the codeword of that length and pattern. -/
theorem codeAt_some {c : Color} {len pattern : Nat} {i : Instr} (h : codeAt c len pattern = some i) :
    ∃ cw, i.codeword = some cw ∧ cw.color = c ∧ cw.len = len ∧ cw.pattern.toNat = pattern := by
  simp only [codeAt, Option.map_eq_some_iff] at h
  obtain ⟨r, hr, rfl⟩ := h
  have hm := List.mem_of_find?_eq_some hr
  have hp := List.find?_some hr
  have hc := List.all_eq_true.1 (rowCheck_all c) r hm
  simp only [Bool.and_eq_true, beq_iff_eq] at hp
  split at hc
  · rename_i cw hcw
    simp only [Bool.and_eq_true, beq_iff_eq] at hc
    obtain ⟨⟨h1, h2⟩, h3⟩ := hc
    have hl := codeword_facts hcw
    have hlen : cw.len = len := windowMask_inj (le_trans hl.2.1 (lmax_le _)) (h2.symm.trans hp.1)
    refine ⟨cw, hcw, h1, hlen, ?_⟩
    have := h3.symm.trans hp.2
    rw [hlen, windowMatch, windowMatch] at this
    exact Nat.eq_of_mul_eq_mul_right (Nat.two_pow_pos _) this
  · cases hc

/-- The decoder's rows and the LUT hit together, on the same codeword. -/
theorem lutRead_iff_codeAt (c : Color) (len : Nat) (p : CodeAcc) (e : LutEntry) :
    lutRead t4mh c len p = some e ↔ ∃ i, codeAt c len (p.toNat % 2 ^ len) = some i ∧ entryOfInstr i = e := by
  constructor
  · intro h
    obtain ⟨-, -, w, hw, rfl, -, rfl, hp⟩ := lutRead_some h
    have hc := List.all_eq_true.1 (wordCheck_all c) w hw
    simp only [beq_iff_eq, Option.map_eq_some_iff, hp] at hc
    exact hc
  · rintro ⟨i, hi, rfl⟩
    obtain ⟨cw, hcw, rfl, rfl, hp⟩ := codeAt_some hi
    have hf := codeword_facts hcw
    rw [← hf.2.2.2.1]
    refine lutRead_low _ _ ?_
    rw [BitVec.toNat_setWidth_of_le (by norm_num), hp, Nat.mod_mod]

/-- A lookup misses exactly where no codeword of the bank has these bits. -/
theorem lutRead_none_iff (c : Color) (len : Nat) (p : CodeAcc) :
    lutRead t4mh c len p = none ↔ codeAt c len (p.toNat % 2 ^ len) = none := by
  constructor
  · intro h
    cases hc : codeAt c len (p.toNat % 2 ^ len) with
    | none => rfl
    | some i => rw [(lutRead_iff_codeAt c len p (entryOfInstr i)).2 ⟨i, hc, rfl⟩] at h; cases h
  · intro h
    cases hr : lutRead t4mh c len p with
    | none => rfl
    | some e =>
      obtain ⟨i, hi, -⟩ := (lutRead_iff_codeAt c len p e).1 hr
      rw [h] at hi; cases hi

/-- Prefix-freedom (R65 (b)): no codeword of a bank is the leading bits of a longer one. -/
theorem codeword_not_leading {i j : Instr} {a b : Codeword} (ha : i.codeword = some a) (hb : j.codeword = some b)
    (hc : a.color = b.color) (hl : a.len < b.len) : b.pattern.toNat / 2 ^ (b.len - a.len) ≠ a.pattern.toNat := by
  have hall := noLeadingBits_all b.color
  have hi : codeOf i = (a.len, a.pattern.toNat) := by simp [codeOf, ha]
  have hj : codeOf j = (b.len, b.pattern.toNat) := by simp [codeOf, hb]
  have h1 := List.all_eq_true.1 hall _ (List.mem_map_of_mem (f := codeOf) (hc ▸ mem_bankInstrs ha))
  have h2 := List.all_eq_true.1 h1 _ (List.mem_map_of_mem (f := codeOf) (mem_bankInstrs hb))
  rw [hi, hj] at h2
  intro he
  simp [he] at h2
  have hb : Nat.blt a.len b.len = true := by rw [Nat.blt_eq]; exact hl
  rw [hb] at h2
  cases h2

/-- No first part of a codeword is a codeword of its bank. -/
theorem codeAt_shorter {i : Instr} {cw : Codeword} (h : i.codeword = some cw) {n : Nat} (hn : n < cw.len) :
    codeAt cw.color n (cw.pattern.toNat / 2 ^ (cw.len - n)) = none := by
  cases hc : codeAt cw.color n (cw.pattern.toNat / 2 ^ (cw.len - n)) with
  | none => rfl
  | some j =>
    obtain ⟨a, ha, hac, rfl, hap⟩ := codeAt_some hc
    exact absurd hap.symm (codeword_not_leading ha h hac hn)

/-- On the way to a codeword every lookup misses (R85): no part of it, shorter than itself, is a codeword of its bank. -/
theorem lutRead_on_the_way {i : Instr} {cw : Codeword} (h : i.codeword = some cw) {n : Nat} (hn : n < cw.len)
    {p : CodeAcc} (hp : p.toNat % 2 ^ n = cw.pattern.toNat / 2 ^ (cw.len - n)) :
    lutRead t4mh cw.color n p = none := by
  rw [lutRead_none_iff, hp]; exact codeAt_shorter h hn

/-! ### One bit of an awaited codeword -/

theorem awaits_iff (s : State) (cw : Codeword) :
    s.awaits cw = true ↔ s.st = .reading ∧ s.color = cw.color ∧ s.codeLen.toNat < cw.len ∧
      s.codeAcc.toNat % 2 ^ s.codeLen.toNat = cw.pattern.toNat / 2 ^ (cw.len - s.codeLen.toNat) := by
  simp [State.awaits, and_assoc]

theorem shiftIn_toNat (acc : CodeAcc) (b : Bool) : (shiftIn acc b).toNat = (2 * acc.toNat + b.toNat) % 2 ^ 14 := by
  have hb : b.toNat < 2 := Bool.toNat_lt b
  simp only [shiftIn, BitVec.toNat_append, BitVec.extractLsb'_toNat, BitVec.toNat_ofBool, Nat.shiftRight_zero]
  rw [Nat.shiftLeft_eq, Nat.mul_comm, ← Nat.two_pow_add_eq_or_of_lt (by simpa using hb)]
  omega

theorem storedLen_of_lt {len : Nat} (h : len < 16) (acc : CodeAcc) : storedLen len acc = BitVec.ofNat 4 len := by
  rw [storedLen, if_pos (show len < 2 ^ Config.lenW from h)]

/-- The next bit of a codeword after its first `n`. -/
def codeBit (cw : Codeword) (n : Nat) : Bool := cw.pattern.toNat.testBit (cw.len - 1 - n)

/-- Shifting the next bit of an awaited codeword in gives one more of its leading bits. -/
theorem shiftIn_awaited {s : State} {cw : Codeword} (hl : cw.len ≤ 13) (ha : s.awaits cw = true) :
    (shiftIn s.codeAcc (codeBit cw s.codeLen.toNat)).toNat % 2 ^ nextLen s =
      cw.pattern.toNat / 2 ^ (cw.len - nextLen s) := by
  obtain ⟨-, -, h1, h2⟩ := (awaits_iff s cw).1 ha
  obtain ⟨k, hk⟩ : ∃ k, cw.len = s.codeLen.toNat + 1 + k := ⟨cw.len - s.codeLen.toNat - 1, by omega⟩
  have e1 : cw.len - s.codeLen.toNat = k + 1 := by omega
  have e2 : cw.len - nextLen s = k := by simp only [nextLen]; omega
  have e3 : cw.len - 1 - s.codeLen.toNat = k := by omega
  rw [e1] at h2
  rw [e2, shiftIn_toNat, codeBit, e3, nextLen]
  have hd : 2 ^ (s.codeLen.toNat + 1) ∣ 2 ^ 14 := Nat.pow_dvd_pow 2 (by omega)
  rw [Nat.mod_mod_of_dvd _ hd, Nat.toNat_testBit]
  have hm : s.codeAcc.toNat = 2 ^ s.codeLen.toNat * (s.codeAcc.toNat / 2 ^ s.codeLen.toNat) +
      cw.pattern.toNat / 2 ^ (k + 1) := by rw [← h2]; exact (Nat.div_add_mod _ _).symm
  have hp : cw.pattern.toNat / 2 ^ k = 2 * (cw.pattern.toNat / 2 ^ (k + 1)) + cw.pattern.toNat / 2 ^ k % 2 := by
    rw [Nat.pow_succ, ← Nat.div_div_eq_div_mul]; omega
  have hlt : cw.pattern.toNat / 2 ^ (k + 1) < 2 ^ s.codeLen.toNat := by
    rw [← h2]; exact Nat.mod_lt _ (Nat.two_pow_pos _)
  rw [hm]
  generalize cw.pattern.toNat / 2 ^ (k + 1) = x at *
  generalize s.codeAcc.toNat / 2 ^ s.codeLen.toNat = y at *
  have hq : cw.pattern.toNat / 2 ^ k % 2 < 2 := Nat.mod_lt _ (by norm_num)
  generalize cw.pattern.toNat / 2 ^ k = z at *
  generalize z % 2 = q at *
  rw [hp]
  have : 2 * (2 ^ s.codeLen.toNat * y + x) + q = 2 ^ (s.codeLen.toNat + 1) * y + (2 * x + q) := by ring
  rw [this, Nat.mul_add_mod]
  apply Nat.mod_eq_of_lt
  rw [Nat.pow_succ]; omega

/-- The leading bits of a pattern, one bit more. -/
theorem half_bit (p n : Nat) : 2 * (p / 2 ^ (n + 1)) + (p.testBit n).toNat = p / 2 ^ n := by
  rw [Nat.toNat_testBit, Nat.pow_succ, ← Nat.div_div_eq_div_mul]; omega

/-- The row of a codeword instruction. -/
theorem row_of_codeword {i : Instr} {cw : Codeword} (h : i.codeword = some cw) :
    ∃ r ∈ codeRows cw.color, r.instr = i := by
  have := (codeword_facts h).2.2.2.2
  simp only [codeAt, Option.map_eq_some_iff] at this
  obtain ⟨r, hr, hi⟩ := this
  exact ⟨r, List.mem_of_find?_eq_some hr, hi⟩

/-- A row of a bank matches a window exactly when the window's leading bits are the row's codeword (R64). -/
theorem row_matches_iff {c : Color} (w : BitVec 13) {r : CodeRow} (hr : r ∈ codeRows c) :
    (w &&& r.mask == r.mtch) = true ↔
      ∃ cw, r.instr.codeword = some cw ∧ cw.color = c ∧ w.toNat / 2 ^ (13 - cw.len) = cw.pattern.toNat := by
  have hc := List.all_eq_true.1 (rowCheck_all c) r hr
  split at hc
  · rename_i cw hcw
    simp only [Bool.and_eq_true, beq_iff_eq] at hc
    obtain ⟨⟨h1, h2⟩, h3⟩ := hc
    have hf := codeword_facts hcw
    have hl13 := lmax_le cw.color
    have key : (w &&& r.mask).toNat = w.toNat / 2 ^ (13 - cw.len) * 2 ^ (13 - cw.len) := by
      rw [BitVec.toNat_and, h2, windowMask]
      have hw := w.isLt
      have hlen : cw.len ≤ 13 := by omega
      generalize cw.len = l at *
      apply Nat.eq_of_testBit_eq
      intro k
      rw [Nat.testBit_and, Nat.testBit_mul_two_pow, Nat.testBit_mul_two_pow, Nat.testBit_div_two_pow,
        Nat.testBit_two_pow_sub_one]
      by_cases hk : 13 - l ≤ k
      · by_cases hk2 : k - (13 - l) < l
        · simp [hk, hk2]
        · have : w.toNat.testBit k = false :=
            Nat.testBit_lt_two_pow (lt_of_lt_of_le hw (Nat.pow_le_pow_right (by norm_num) (by omega)))
          simp [this, show k - (13 - l) + (13 - l) = k by omega]
      · simp [hk]
    rw [beq_iff_eq, ← BitVec.toNat_inj, key, h3, windowMatch]
    constructor
    · intro h; exact ⟨cw, hcw, h1, Nat.eq_of_mul_eq_mul_right (Nat.two_pow_pos _) h⟩
    · rintro ⟨cw', hh, -, h⟩; rw [hcw] at hh; cases hh; rw [h]
  · cases hc

end Sys2Proof.Machine
end

