-- ==== Sys2Proof/Laws/Ops.lean ====
section
/-! SUPPORT. What each shared operation can do, said once: the checked sum, the codeword actions, one `Bit` event, the
delivery of bits, and one instruction. -/

namespace Sys2Proof.Machine

/-! ### Sums and actions -/

theorem checkedAdd_fits {w : Nat} {acc : BitVec w} {v : Nat} (h : acc.toNat + v < 2 ^ w) :
    checkedAdd w acc v = some (BitVec.ofNat w (acc.toNat + v)) := by
  rw [checkedAdd, if_neg (by omega)]

theorem checkedAdd_over {w : Nat} {acc : BitVec w} {v : Nat} (h : 2 ^ w ≤ acc.toNat + v) :
    checkedAdd w acc v = none := by
  rw [checkedAdd, if_pos h]

theorem terminatingAction_fits {v : Nat} {s : State} (h : s.runAcc.toNat + v < 2 ^ Config.runW) (acc : CodeAcc)
    (len : Nat) :
    terminatingAction v acc len s =
      { s with outColor := s.color, outLen := BitVec.ofNat Config.runW (s.runAcc.toNat + v),
               color := otherColor s.color, runAcc := 0, codeAcc := 0, codeLen := 0, st := .runComplete } := by
  rw [terminatingAction, checkedAdd_fits h]; rfl

theorem terminatingAction_over {v : Nat} {s : State} (h : 2 ^ Config.runW ≤ s.runAcc.toNat + v) (acc : CodeAcc)
    (len : Nat) : terminatingAction v acc len s = raiseOverflow acc len s := by
  rw [terminatingAction, checkedAdd_over h]

theorem makeupAction_fits {v : Nat} {s : State} (h : s.runAcc.toNat + v < 2 ^ Config.runW) (acc : CodeAcc)
    (len : Nat) :
    makeupAction v acc len s =
      { s with runAcc := BitVec.ofNat Config.runW (s.runAcc.toNat + v), codeAcc := 0, codeLen := 0 } := by
  rw [makeupAction, checkedAdd_fits h]; rfl

theorem makeupAction_over {v : Nat} {s : State} (h : 2 ^ Config.runW ≤ s.runAcc.toNat + v) (acc : CodeAcc)
    (len : Nat) : makeupAction v acc len s = raiseOverflow acc len s := by
  rw [makeupAction, checkedAdd_over h]

theorem raiseOverflow_of_short {len : Nat} (h : len < 16) (acc : CodeAcc) (s : State) :
    raiseOverflow acc len s =
      { s with codeAcc := acc, codeLen := BitVec.ofNat 4 len, st := .error, errCode := .runOverflow } := by
  rw [raiseOverflow, raiseError, holdCode, storedLen_of_lt h]

theorem entryAction_term {e : LutEntry} (h : e.kind = .term) (acc : CodeAcc) (len : Nat) (s : State) :
    entryAction e acc len s = terminatingAction (runLengthOf e) acc len s := by rw [entryAction, h]

theorem entryAction_makeup {e : LutEntry} (h : e.kind = .makeup) (acc : CodeAcc) (len : Nat) (s : State) :
    entryAction e acc len s = makeupAction (runLengthOf e) acc len s := by rw [entryAction, h]

theorem entryAction_eol {e : LutEntry} (h : e.kind = .eol) (acc : CodeAcc) (len : Nat) (s : State) :
    entryAction e acc len s = eolAction s := by rw [entryAction, h]

/-! ### One bit -/

theorem bitEventOver_not_reading {s : State} (h : s.st ≠ .reading) (tab : LutTable) (b : Bool) :
    bitEventOver tab b s = s := by
  rw [bitEventOver, if_neg h]

theorem bitEventOver_hit {tab : LutTable} {s : State} {b : Bool} {e : LutEntry} (h : s.st = .reading)
    (hr : lutRead tab s.color (nextLen s) (shiftIn s.codeAcc b) = some e) :
    bitEventOver tab b s = entryAction e (shiftIn s.codeAcc b) (nextLen s) s := by
  rw [bitEventOver, if_pos h, consumeBit, hr]

theorem bitEventOver_continues {tab : LutTable} {s : State} {b : Bool} (h : s.st = .reading)
    (hr : lutRead tab s.color (nextLen s) (shiftIn s.codeAcc b) = none) (hl : nextLen s ≤ lmax tab s.color) :
    bitEventOver tab b s = holdCode (shiftIn s.codeAcc b) (nextLen s) s := by
  rw [bitEventOver, if_pos h, consumeBit, hr]; exact if_neg (by omega)

theorem bitEventOver_overlong {tab : LutTable} {s : State} {b : Bool} (h : s.st = .reading)
    (hr : lutRead tab s.color (nextLen s) (shiftIn s.codeAcc b) = none) (hl : lmax tab s.color < nextLen s) :
    bitEventOver tab b s = raiseError .invalidCodeword (holdCode (shiftIn s.codeAcc b) (nextLen s) s) := by
  rw [bitEventOver, if_pos h, consumeBit, hr]; exact if_pos hl

theorem bitEvent_not_reading {s : State} (h : s.st ≠ .reading) (b : Bool) : bitEvent b s = s :=
  bitEventOver_not_reading h t4mh b

theorem bitEvent_hit {s : State} {b : Bool} {e : LutEntry} (h : s.st = .reading)
    (hr : lutRead t4mh s.color (nextLen s) (shiftIn s.codeAcc b) = some e) :
    bitEvent b s = entryAction e (shiftIn s.codeAcc b) (nextLen s) s := bitEventOver_hit h hr

theorem bitEvent_continues {s : State} {b : Bool} (h : s.st = .reading)
    (hr : lutRead t4mh s.color (nextLen s) (shiftIn s.codeAcc b) = none) (hl : nextLen s ≤ lmax t4mh s.color) :
    bitEvent b s = holdCode (shiftIn s.codeAcc b) (nextLen s) s := bitEventOver_continues h hr hl

theorem bitEvent_overlong {s : State} {b : Bool} (h : s.st = .reading)
    (hr : lutRead t4mh s.color (nextLen s) (shiftIn s.codeAcc b) = none) (hl : lmax t4mh s.color < nextLen s) :
    bitEvent b s = raiseError .invalidCodeword (holdCode (shiftIn s.codeAcc b) (nextLen s) s) :=
  bitEventOver_overlong h hr hl

/-- What the action of an entry can do: complete a run, extend it, end the line, or report an overflow. -/
inductive ActionCase (e : LutEntry) (acc : CodeAcc) (len : Nat) (s t : State) : Prop where
  | run (hk : e.kind = .term) (hf : s.runAcc.toNat + runLengthOf e < 2 ^ Config.runW)
      (ht : t = { s with outColor := s.color, outLen := BitVec.ofNat Config.runW (s.runAcc.toNat + runLengthOf e),
                         color := otherColor s.color, runAcc := 0, codeAcc := 0, codeLen := 0, st := .runComplete })
  | extend (hk : e.kind = .makeup) (hf : s.runAcc.toNat + runLengthOf e < 2 ^ Config.runW)
      (ht : t = { s with runAcc := BitVec.ofNat Config.runW (s.runAcc.toNat + runLengthOf e), codeAcc := 0,
                         codeLen := 0 })
  | lineEnd (hk : e.kind = .eol) (ht : t = { s with codeAcc := 0, codeLen := 0, st := .endOfLine })
  | overflow (hk : e.kind = .term ∨ e.kind = .makeup) (ho : 2 ^ Config.runW ≤ s.runAcc.toNat + runLengthOf e)
      (ht : t = { s with codeAcc := acc, codeLen := storedLen len acc, st := .error, errCode := .runOverflow })

theorem entryAction_cases {e : LutEntry} (he : e.kind ≠ .empty) (acc : CodeAcc) (len : Nat) (s : State) :
    ActionCase e acc len s (entryAction e acc len s) := by
  by_cases hf : s.runAcc.toNat + runLengthOf e < 2 ^ Config.runW
  · match hk : e.kind with
    | .term => exact .run hk hf (by rw [entryAction_term hk, terminatingAction_fits hf])
    | .makeup => exact .extend hk hf (by rw [entryAction_makeup hk, makeupAction_fits hf])
    | .eol => exact .lineEnd hk (entryAction_eol hk _ _ _)
    | .empty => exact absurd hk he
  · match hk : e.kind with
    | .term =>
      exact .overflow (.inl hk) (by omega) (by rw [entryAction_term hk, terminatingAction_over (by omega)]; rfl)
    | .makeup =>
      exact .overflow (.inr hk) (by omega) (by rw [entryAction_makeup hk, makeupAction_over (by omega)]; rfl)
    | .eol => exact .lineEnd hk (entryAction_eol hk _ _ _)
    | .empty => exact absurd hk he

/-- What one `Bit` event can do over a table. -/
inductive BitCase (tab : LutTable) (b : Bool) (s t : State) : Prop where
  | notConsumed (h : s.st ≠ .reading) (ht : t = s)
  | hit (h : s.st = .reading) (e : LutEntry)
      (hr : lutRead tab s.color (nextLen s) (shiftIn s.codeAcc b) = some e)
      (ht : ActionCase e (shiftIn s.codeAcc b) (nextLen s) s t)
  | continues (h : s.st = .reading) (hr : lutRead tab s.color (nextLen s) (shiftIn s.codeAcc b) = none)
      (hl : nextLen s ≤ lmax tab s.color)
      (ht : t = { s with codeAcc := shiftIn s.codeAcc b,
                         codeLen := storedLen (nextLen s) (shiftIn s.codeAcc b) })
  | overlong (h : s.st = .reading) (hr : lutRead tab s.color (nextLen s) (shiftIn s.codeAcc b) = none)
      (hl : lmax tab s.color < nextLen s)
      (ht : t = { s with codeAcc := shiftIn s.codeAcc b,
                         codeLen := storedLen (nextLen s) (shiftIn s.codeAcc b), st := .error,
                         errCode := .invalidCodeword })

theorem bitEventOver_cases (tab : LutTable) (b : Bool) (s : State) : BitCase tab b s (bitEventOver tab b s) := by
  by_cases h : s.st = .reading
  · cases hr : lutRead tab s.color (nextLen s) (shiftIn s.codeAcc b) with
    | some e =>
      rw [bitEventOver_hit h hr]
      exact .hit h e hr (entryAction_cases (kind_of_hit hr) _ _ _)
    | none =>
      by_cases hl : nextLen s ≤ lmax tab s.color
      · exact .continues h hr hl (bitEventOver_continues h hr hl)
      · exact .overlong h hr (by omega) (bitEventOver_overlong h hr (by omega))
  · exact .notConsumed h (bitEventOver_not_reading h tab b)

theorem bitEvent_cases (b : Bool) (s : State) : BitCase t4mh b s (bitEvent b s) := bitEventOver_cases t4mh b s

/-! ### Bits one after another -/

theorem deliverBits_not_reading {s : State} (h : s.st ≠ .reading) (bs : List Bool) : deliverBits bs s = s := by
  induction bs with
  | nil => rfl
  | cons b bs ih => rw [deliverBits, bitEvent_not_reading h, ih]

theorem deliverBits_append (as bs : List Bool) (s : State) :
    deliverBits (as ++ bs) s = deliverBits bs (deliverBits as s) := by
  induction as generalizing s with
  | nil => rfl
  | cons a as ih => simp [deliverBits, ih]

/-- What every `Bit` event keeps, the delivery of bits keeps. -/
theorem deliverBits_keeps {P : State → Prop} (hb : ∀ b s, P s → P (bitEvent b s)) (bs : List Bool) {s : State}
    (h : P s) : P (deliverBits bs s) := by
  induction bs generalizing s with
  | nil => exact h
  | cons b bs ih => exact ih (hb b s h)

/-- A relation of a state to a later one that is reflexive and transitive, and holds across every `Bit` event, holds
across the delivery of bits. -/
theorem deliverBits_rel {R : State → State → Prop} (refl : ∀ s, R s s) (trans : ∀ s t u, R s t → R t u → R s u)
    (hb : ∀ b s, R s (bitEvent b s)) (bs : List Bool) (s : State) : R s (deliverBits bs s) := by
  induction bs generalizing s with
  | nil => exact refl s
  | cons b bs ih => exact trans _ _ _ (hb b s) (ih _)

/-! ### One instruction -/

/-- What one instruction can do. -/
inductive ExecCase (i : Instr) (s t : State) : Prop where
  | fresh (h : i = .start ∨ i = .reset) (ht : t = freshLine s)
  | bit (b : Bool) (h : i = .bit b) (ht : t = bitEvent b s)
  | endData (h : i = .endData) (ht : t = endOfSource s)
  | accept (h : i = .accept) (ht : t = acceptRun s)
  | idle (h : i = .idle) (ht : t = s)
  | awaited (cw : Codeword) (h : i.codeword = some cw) (ha : s.awaits cw = true)
      (ht : ActionCase (entryOfInstr i) (s.accAtEnd cw) cw.len s t)
  | unawaited (cw : Codeword) (h : i.codeword = some cw) (ha : s.awaits cw = false)
      (ht : t = deliverBits cw.bits s)

/-- A host operation is one of six. -/
theorem hostOp_of_no_codeword {i : Instr} (h : i.codeword = none) :
    i = .reset ∨ i = .start ∨ (∃ b, i = .bit b) ∨ i = .endData ∨ i = .accept ∨ i = .idle := by
  cases i <;> first | cases h; done | simp

theorem exec_cases {i : Instr} {s t : State} (h : exec i s = .next t) : ExecCase i s t := by
  cases hc : i.codeword with
  | some cw =>
    have hk : (entryOfInstr i).kind ≠ .empty := (hit_range (codeword_facts hc).2.2.2.1).2.2.2.2.1
    cases ha : s.awaits cw with
    | true =>
      rw [exec_awaited hc ha] at h
      cases h
      exact .awaited cw hc ha (entryAction_cases hk _ _ _)
    | false =>
      rw [exec_unawaited hc ha] at h
      cases h
      exact .unawaited cw hc ha rfl
  | none =>
    obtain rfl | rfl | ⟨b, rfl⟩ | rfl | rfl | rfl := hostOp_of_no_codeword hc <;> cases h
    · exact .fresh (.inr rfl) rfl
    · exact .fresh (.inl rfl) rfl
    · exact .bit b rfl rfl
    · exact .endData rfl rfl
    · exact .accept rfl rfl
    · exact .idle rfl rfl

/-! ### The bits of an awaited codeword -/

theorem nextLen_awaited {s : State} {cw : Codeword} (ha : s.awaits cw = true) : nextLen s ≤ cw.len := by
  have := ((awaits_iff s cw).1 ha).2.2.1
  simp only [nextLen]; omega

/-- With more than one bit to come, the next bit of an awaited codeword is held, and the codeword is awaited still. -/
theorem bitEvent_on_the_way {i : Instr} {cw : Codeword} {s : State} (h : i.codeword = some cw)
    (ha : s.awaits cw = true) (hn : nextLen s < cw.len) :
    bitEvent (codeBit cw s.codeLen.toNat) s =
        { s with codeAcc := shiftIn s.codeAcc (codeBit cw s.codeLen.toNat), codeLen := BitVec.ofNat 4 (nextLen s) } ∧
      (bitEvent (codeBit cw s.codeLen.toNat) s).awaits cw = true := by
  have hf := codeword_facts h
  have hl : cw.len ≤ 13 := le_trans hf.2.1 (lmax_le _)
  obtain ⟨h1, h2, h3, h4⟩ := (awaits_iff s cw).1 ha
  have hs := shiftIn_awaited hl ha
  have hr : lutRead t4mh s.color (nextLen s) (shiftIn s.codeAcc (codeBit cw s.codeLen.toNat)) = none := by
    rw [h2]; exact lutRead_on_the_way h hn hs
  have he : bitEvent (codeBit cw s.codeLen.toNat) s =
      { s with codeAcc := shiftIn s.codeAcc (codeBit cw s.codeLen.toNat), codeLen := BitVec.ofNat 4 (nextLen s) } := by
    have := hf.2.1
    rw [bitEvent_continues h1 hr (by rw [h2]; omega), holdCode, storedLen_of_lt (by omega)]
  refine ⟨he, ?_⟩
  have hm : (BitVec.ofNat 4 (nextLen s)).toNat = nextLen s := by
    rw [BitVec.toNat_ofNat]; exact Nat.mod_eq_of_lt (by omega)
  rw [he, awaits_iff]
  exact ⟨h1, h2, by simpa [hm] using hn, by simpa only [hm] using hs⟩

/-- At its last bit an awaited codeword is hit. -/
theorem lutRead_last_bit {i : Instr} {cw : Codeword} {s : State} (h : i.codeword = some cw)
    (ha : s.awaits cw = true) (hn : nextLen s = cw.len) :
    lutRead t4mh s.color (nextLen s) (shiftIn s.codeAcc (codeBit cw s.codeLen.toNat)) = some (entryOfInstr i) := by
  have hf := codeword_facts h
  have hs := shiftIn_awaited (le_trans hf.2.1 (lmax_le _)) ha
  have hc := ((awaits_iff s cw).1 ha).2.1
  rw [hn, Nat.sub_self, Nat.pow_zero, Nat.div_one] at hs
  rw [← hf.2.2.2.1, hn, hc]
  refine lutRead_low _ _ ?_
  rw [hs, BitVec.toNat_setWidth_of_le (by norm_num), Nat.mod_eq_of_lt hf.2.2.1]

/-- The accumulator at the end of an awaited codeword, where one bit is to come, is the accumulator of that bit. -/
theorem accAtEnd_last_bit {s : State} {cw : Codeword} (hn : nextLen s = cw.len) :
    s.accAtEnd cw = shiftIn s.codeAcc (codeBit cw s.codeLen.toNat) := by
  have hb : s.bitsLeft cw = 1 := by simp only [State.bitsLeft, nextLen] at *; omega
  have h0 : cw.len - 1 - s.codeLen.toNat = 0 := by simp only [nextLen] at hn; omega
  apply BitVec.eq_of_toNat_eq
  rw [shiftIn_toNat, State.accAtEnd, hb, codeBit, h0, Nat.toNat_testBit, BitVec.toNat_ofNat]
  simp [Nat.mul_comm, Config.codeW]

/-- The last bit of an awaited codeword runs its instruction. -/
theorem bitEvent_last_bit {i : Instr} {cw : Codeword} {s : State} (h : i.codeword = some cw)
    (ha : s.awaits cw = true) (hn : nextLen s = cw.len) :
    exec i s = .next (bitEvent (codeBit cw s.codeLen.toNat) s) := by
  rw [exec_awaited h ha, bitEvent_hit ((awaits_iff s cw).1 ha).1 (lutRead_last_bit h ha hn), accAtEnd_last_bit hn, hn]

/-- What the action of an entry leaves does not depend on the bits held before. -/
theorem entryAction_ignores_held {e : LutEntry} (hk : e.kind ≠ .empty) (a : CodeAcc) (n : Nat) (s : State)
    (x : CodeAcc) (y : CodeLen) :
    entryAction e a n { s with codeAcc := x, codeLen := y } = entryAction e a n s := by
  match hkk : e.kind with
  | .term => rw [entryAction_term hkk, entryAction_term hkk]; unfold terminatingAction; simp only []; split <;> rfl
  | .makeup => rw [entryAction_makeup hkk, entryAction_makeup hkk]; unfold makeupAction; simp only []; split <;> rfl
  | .eol => rw [entryAction_eol hkk, entryAction_eol hkk]; rfl
  | .empty => exact absurd hkk hk

/-- With more than one bit to come, an awaited codeword has the same meaning before its next bit and after it. -/
theorem exec_on_the_way {i : Instr} {cw : Codeword} {s : State} (h : i.codeword = some cw)
    (ha : s.awaits cw = true) (hn : nextLen s < cw.len) :
    exec i (bitEvent (codeBit cw s.codeLen.toNat) s) = exec i s := by
  obtain ⟨he, ha'⟩ := bitEvent_on_the_way h ha hn
  rw [exec_awaited h ha', exec_awaited h ha]
  have hf := codeword_facts h
  have hl13 := lmax_le cw.color
  have hm : (BitVec.ofNat 4 (nextLen s)).toNat = nextLen s := by
    rw [BitVec.toNat_ofNat]; exact Nat.mod_eq_of_lt (by omega)
  have hacc : (bitEvent (codeBit cw s.codeLen.toNat) s).accAtEnd cw = s.accAtEnd cw := by
    rw [he]
    apply BitVec.eq_of_toNat_eq
    simp only [State.accAtEnd, State.bitsLeft, hm, BitVec.toNat_ofNat, shiftIn_toNat, Config.codeW]
    obtain ⟨k, hk⟩ : ∃ k, cw.len = s.codeLen.toNat + 1 + k :=
      ⟨cw.len - s.codeLen.toNat - 1, by simp only [nextLen] at hn; omega⟩
    rw [show cw.len - nextLen s = k by simp only [nextLen]; omega,
      show cw.len - s.codeLen.toNat = k + 1 by omega, codeBit, show cw.len - 1 - s.codeLen.toNat = k by omega,
      Nat.toNat_testBit]
    have e1 : cw.pattern.toNat % 2 ^ (k + 1) =
        2 ^ k * (cw.pattern.toNat / 2 ^ k % 2) + cw.pattern.toNat % 2 ^ k := by rw [Nat.mod_pow_succ]; ring
    rw [e1, ← Nat.mod_add_mod, Nat.mod_mul_mod, Nat.mod_add_mod]
    congr 1; rw [pow_succ]; ring
  rw [hacc, he, entryAction_ignores_held (hit_range hf.2.2.2.1).2.2.2.2.1]

/-- With `code_acc < 2^code_len`, the accumulator at the end of an awaited codeword is its pattern. -/
theorem accAtEnd_of_fits {s : State} {cw : Codeword} (ha : s.awaits cw = true)
    (hf : s.codeAcc.toNat < 2 ^ s.codeLen.toNat) : s.accAtEnd cw = cw.pattern.setWidth 14 := by
  have hx := cw.pattern.isLt
  obtain ⟨-, -, -, h2⟩ := (awaits_iff s cw).1 ha
  rw [Nat.mod_eq_of_lt hf] at h2
  apply BitVec.eq_of_toNat_eq
  rw [State.accAtEnd, BitVec.toNat_ofNat, h2, State.bitsLeft, BitVec.toNat_setWidth_of_le (by norm_num),
    Nat.mul_comm, Nat.div_add_mod]
  exact Nat.mod_eq_of_lt (by simp only [Config.codeW]; omega)

end Sys2Proof.Machine
end

