-- ==== Sys2Proof/Laws/PerInstr.lean ====
section
/-! SUPPORT. For each instruction: its encoding is well formed and its table word decodes to it. -/

namespace Sys2Proof.Laws.EncodingSound

/-- The bank an instruction is read in; a host operation is read in none, and any will do. -/
def bankFor (i : Instr) : Color := (i.codeword.map (·.color)).getD .white

/-- The codeword of the instruction, if it is one, is well formed (R60), and the instruction's table word, with zeros in
the bits that are not its own, decodes to it in its bank (R64, R74). -/
def Statement (i : Instr) : Prop :=
  (i.codeword.all Codeword.wellFormed) = true ∧
    decodeWordIn (bankFor i) (encodeWord i).1 (encodeWord i).2 = some i

/-- The statement as a check. -/
def soundCheck (i : Instr) : Bool :=
  (i.codeword.all Codeword.wellFormed) && decodeWordIn (bankFor i) (encodeWord i).1 (encodeWord i).2 == some i

theorem of_soundCheck {i : Instr} (h : soundCheck i = true) : Statement i := by
  simpa [soundCheck, Statement] using h

theorem soundCheck_bank (c : Color) : (Machine.bankInstrs c).all soundCheck = true := by
  cases c <;> decide +kernel

theorem of_codeword {i : Instr} {cw : Codeword} (h : i.codeword = some cw) : Statement i :=
  of_soundCheck (List.all_eq_true.1 (soundCheck_bank cw.color) i (Machine.mem_bankInstrs h))

theorem wT0 : Statement .wT0 := of_codeword rfl
theorem wT1 : Statement .wT1 := of_codeword rfl
theorem wT2 : Statement .wT2 := of_codeword rfl
theorem wT3 : Statement .wT3 := of_codeword rfl
theorem wT4 : Statement .wT4 := of_codeword rfl
theorem wT5 : Statement .wT5 := of_codeword rfl
theorem wT6 : Statement .wT6 := of_codeword rfl
theorem wT7 : Statement .wT7 := of_codeword rfl
theorem wT8 : Statement .wT8 := of_codeword rfl
theorem wT9 : Statement .wT9 := of_codeword rfl
theorem wT10 : Statement .wT10 := of_codeword rfl
theorem wT11 : Statement .wT11 := of_codeword rfl
theorem wT12 : Statement .wT12 := of_codeword rfl
theorem wT13 : Statement .wT13 := of_codeword rfl
theorem wT14 : Statement .wT14 := of_codeword rfl
theorem wT15 : Statement .wT15 := of_codeword rfl
theorem wT16 : Statement .wT16 := of_codeword rfl
theorem wT17 : Statement .wT17 := of_codeword rfl
theorem wT18 : Statement .wT18 := of_codeword rfl
theorem wT19 : Statement .wT19 := of_codeword rfl
theorem wT20 : Statement .wT20 := of_codeword rfl
theorem wT21 : Statement .wT21 := of_codeword rfl
theorem wT22 : Statement .wT22 := of_codeword rfl
theorem wT23 : Statement .wT23 := of_codeword rfl
theorem wT24 : Statement .wT24 := of_codeword rfl
theorem wT25 : Statement .wT25 := of_codeword rfl
theorem wT26 : Statement .wT26 := of_codeword rfl
theorem wT27 : Statement .wT27 := of_codeword rfl
theorem wT28 : Statement .wT28 := of_codeword rfl
theorem wT29 : Statement .wT29 := of_codeword rfl
theorem wT30 : Statement .wT30 := of_codeword rfl
theorem wT31 : Statement .wT31 := of_codeword rfl
theorem wT32 : Statement .wT32 := of_codeword rfl
theorem wT33 : Statement .wT33 := of_codeword rfl
theorem wT34 : Statement .wT34 := of_codeword rfl
theorem wT35 : Statement .wT35 := of_codeword rfl
theorem wT36 : Statement .wT36 := of_codeword rfl
theorem wT37 : Statement .wT37 := of_codeword rfl
theorem wT38 : Statement .wT38 := of_codeword rfl
theorem wT39 : Statement .wT39 := of_codeword rfl
theorem wT40 : Statement .wT40 := of_codeword rfl
theorem wT41 : Statement .wT41 := of_codeword rfl
theorem wT42 : Statement .wT42 := of_codeword rfl
theorem wT43 : Statement .wT43 := of_codeword rfl
theorem wT44 : Statement .wT44 := of_codeword rfl
theorem wT45 : Statement .wT45 := of_codeword rfl
theorem wT46 : Statement .wT46 := of_codeword rfl
theorem wT47 : Statement .wT47 := of_codeword rfl
theorem wT48 : Statement .wT48 := of_codeword rfl
theorem wT49 : Statement .wT49 := of_codeword rfl
theorem wT50 : Statement .wT50 := of_codeword rfl
theorem wT51 : Statement .wT51 := of_codeword rfl
theorem wT52 : Statement .wT52 := of_codeword rfl
theorem wT53 : Statement .wT53 := of_codeword rfl
theorem wT54 : Statement .wT54 := of_codeword rfl
theorem wT55 : Statement .wT55 := of_codeword rfl
theorem wT56 : Statement .wT56 := of_codeword rfl
theorem wT57 : Statement .wT57 := of_codeword rfl
theorem wT58 : Statement .wT58 := of_codeword rfl
theorem wT59 : Statement .wT59 := of_codeword rfl
theorem wT60 : Statement .wT60 := of_codeword rfl
theorem wT61 : Statement .wT61 := of_codeword rfl
theorem wT62 : Statement .wT62 := of_codeword rfl
theorem wT63 : Statement .wT63 := of_codeword rfl
theorem wM64 : Statement .wM64 := of_codeword rfl
theorem wM128 : Statement .wM128 := of_codeword rfl
theorem wM192 : Statement .wM192 := of_codeword rfl
theorem wM256 : Statement .wM256 := of_codeword rfl
theorem wM320 : Statement .wM320 := of_codeword rfl
theorem wM384 : Statement .wM384 := of_codeword rfl
theorem wM448 : Statement .wM448 := of_codeword rfl
theorem wM512 : Statement .wM512 := of_codeword rfl
theorem wM576 : Statement .wM576 := of_codeword rfl
theorem wM640 : Statement .wM640 := of_codeword rfl
theorem wM704 : Statement .wM704 := of_codeword rfl
theorem wM768 : Statement .wM768 := of_codeword rfl
theorem wM832 : Statement .wM832 := of_codeword rfl
theorem wM896 : Statement .wM896 := of_codeword rfl
theorem wM960 : Statement .wM960 := of_codeword rfl
theorem wM1024 : Statement .wM1024 := of_codeword rfl
theorem wM1088 : Statement .wM1088 := of_codeword rfl
theorem wM1152 : Statement .wM1152 := of_codeword rfl
theorem wM1216 : Statement .wM1216 := of_codeword rfl
theorem wM1280 : Statement .wM1280 := of_codeword rfl
theorem wM1344 : Statement .wM1344 := of_codeword rfl
theorem wM1408 : Statement .wM1408 := of_codeword rfl
theorem wM1472 : Statement .wM1472 := of_codeword rfl
theorem wM1536 : Statement .wM1536 := of_codeword rfl
theorem wM1600 : Statement .wM1600 := of_codeword rfl
theorem wM1664 : Statement .wM1664 := of_codeword rfl
theorem wM1728 : Statement .wM1728 := of_codeword rfl
theorem wX1792 : Statement .wX1792 := of_codeword rfl
theorem wX1856 : Statement .wX1856 := of_codeword rfl
theorem wX1920 : Statement .wX1920 := of_codeword rfl
theorem wX1984 : Statement .wX1984 := of_codeword rfl
theorem wX2048 : Statement .wX2048 := of_codeword rfl
theorem wX2112 : Statement .wX2112 := of_codeword rfl
theorem wX2176 : Statement .wX2176 := of_codeword rfl
theorem wX2240 : Statement .wX2240 := of_codeword rfl
theorem wX2304 : Statement .wX2304 := of_codeword rfl
theorem wX2368 : Statement .wX2368 := of_codeword rfl
theorem wX2432 : Statement .wX2432 := of_codeword rfl
theorem wX2496 : Statement .wX2496 := of_codeword rfl
theorem wX2560 : Statement .wX2560 := of_codeword rfl
theorem bT0 : Statement .bT0 := of_codeword rfl
theorem bT1 : Statement .bT1 := of_codeword rfl
theorem bT2 : Statement .bT2 := of_codeword rfl
theorem bT3 : Statement .bT3 := of_codeword rfl
theorem bT4 : Statement .bT4 := of_codeword rfl
theorem bT5 : Statement .bT5 := of_codeword rfl
theorem bT6 : Statement .bT6 := of_codeword rfl
theorem bT7 : Statement .bT7 := of_codeword rfl
theorem bT8 : Statement .bT8 := of_codeword rfl
theorem bT9 : Statement .bT9 := of_codeword rfl
theorem bT10 : Statement .bT10 := of_codeword rfl
theorem bT11 : Statement .bT11 := of_codeword rfl
theorem bT12 : Statement .bT12 := of_codeword rfl
theorem bT13 : Statement .bT13 := of_codeword rfl
theorem bT14 : Statement .bT14 := of_codeword rfl
theorem bT15 : Statement .bT15 := of_codeword rfl
theorem bT16 : Statement .bT16 := of_codeword rfl
theorem bT17 : Statement .bT17 := of_codeword rfl
theorem bT18 : Statement .bT18 := of_codeword rfl
theorem bT19 : Statement .bT19 := of_codeword rfl
theorem bT20 : Statement .bT20 := of_codeword rfl
theorem bT21 : Statement .bT21 := of_codeword rfl
theorem bT22 : Statement .bT22 := of_codeword rfl
theorem bT23 : Statement .bT23 := of_codeword rfl
theorem bT24 : Statement .bT24 := of_codeword rfl
theorem bT25 : Statement .bT25 := of_codeword rfl
theorem bT26 : Statement .bT26 := of_codeword rfl
theorem bT27 : Statement .bT27 := of_codeword rfl
theorem bT28 : Statement .bT28 := of_codeword rfl
theorem bT29 : Statement .bT29 := of_codeword rfl
theorem bT30 : Statement .bT30 := of_codeword rfl
theorem bT31 : Statement .bT31 := of_codeword rfl
theorem bT32 : Statement .bT32 := of_codeword rfl
theorem bT33 : Statement .bT33 := of_codeword rfl
theorem bT34 : Statement .bT34 := of_codeword rfl
theorem bT35 : Statement .bT35 := of_codeword rfl
theorem bT36 : Statement .bT36 := of_codeword rfl
theorem bT37 : Statement .bT37 := of_codeword rfl
theorem bT38 : Statement .bT38 := of_codeword rfl
theorem bT39 : Statement .bT39 := of_codeword rfl
theorem bT40 : Statement .bT40 := of_codeword rfl
theorem bT41 : Statement .bT41 := of_codeword rfl
theorem bT42 : Statement .bT42 := of_codeword rfl
theorem bT43 : Statement .bT43 := of_codeword rfl
theorem bT44 : Statement .bT44 := of_codeword rfl
theorem bT45 : Statement .bT45 := of_codeword rfl
theorem bT46 : Statement .bT46 := of_codeword rfl
theorem bT47 : Statement .bT47 := of_codeword rfl
theorem bT48 : Statement .bT48 := of_codeword rfl
theorem bT49 : Statement .bT49 := of_codeword rfl
theorem bT50 : Statement .bT50 := of_codeword rfl
theorem bT51 : Statement .bT51 := of_codeword rfl
theorem bT52 : Statement .bT52 := of_codeword rfl
theorem bT53 : Statement .bT53 := of_codeword rfl
theorem bT54 : Statement .bT54 := of_codeword rfl
theorem bT55 : Statement .bT55 := of_codeword rfl
theorem bT56 : Statement .bT56 := of_codeword rfl
theorem bT57 : Statement .bT57 := of_codeword rfl
theorem bT58 : Statement .bT58 := of_codeword rfl
theorem bT59 : Statement .bT59 := of_codeword rfl
theorem bT60 : Statement .bT60 := of_codeword rfl
theorem bT61 : Statement .bT61 := of_codeword rfl
theorem bT62 : Statement .bT62 := of_codeword rfl
theorem bT63 : Statement .bT63 := of_codeword rfl
theorem bM64 : Statement .bM64 := of_codeword rfl
theorem bM128 : Statement .bM128 := of_codeword rfl
theorem bM192 : Statement .bM192 := of_codeword rfl
theorem bM256 : Statement .bM256 := of_codeword rfl
theorem bM320 : Statement .bM320 := of_codeword rfl
theorem bM384 : Statement .bM384 := of_codeword rfl
theorem bM448 : Statement .bM448 := of_codeword rfl
theorem bM512 : Statement .bM512 := of_codeword rfl
theorem bM576 : Statement .bM576 := of_codeword rfl
theorem bM640 : Statement .bM640 := of_codeword rfl
theorem bM704 : Statement .bM704 := of_codeword rfl
theorem bM768 : Statement .bM768 := of_codeword rfl
theorem bM832 : Statement .bM832 := of_codeword rfl
theorem bM896 : Statement .bM896 := of_codeword rfl
theorem bM960 : Statement .bM960 := of_codeword rfl
theorem bM1024 : Statement .bM1024 := of_codeword rfl
theorem bM1088 : Statement .bM1088 := of_codeword rfl
theorem bM1152 : Statement .bM1152 := of_codeword rfl
theorem bM1216 : Statement .bM1216 := of_codeword rfl
theorem bM1280 : Statement .bM1280 := of_codeword rfl
theorem bM1344 : Statement .bM1344 := of_codeword rfl
theorem bM1408 : Statement .bM1408 := of_codeword rfl
theorem bM1472 : Statement .bM1472 := of_codeword rfl
theorem bM1536 : Statement .bM1536 := of_codeword rfl
theorem bM1600 : Statement .bM1600 := of_codeword rfl
theorem bM1664 : Statement .bM1664 := of_codeword rfl
theorem bM1728 : Statement .bM1728 := of_codeword rfl
theorem bX1792 : Statement .bX1792 := of_codeword rfl
theorem bX1856 : Statement .bX1856 := of_codeword rfl
theorem bX1920 : Statement .bX1920 := of_codeword rfl
theorem bX1984 : Statement .bX1984 := of_codeword rfl
theorem bX2048 : Statement .bX2048 := of_codeword rfl
theorem bX2112 : Statement .bX2112 := of_codeword rfl
theorem bX2176 : Statement .bX2176 := of_codeword rfl
theorem bX2240 : Statement .bX2240 := of_codeword rfl
theorem bX2304 : Statement .bX2304 := of_codeword rfl
theorem bX2368 : Statement .bX2368 := of_codeword rfl
theorem bX2432 : Statement .bX2432 := of_codeword rfl
theorem bX2496 : Statement .bX2496 := of_codeword rfl
theorem bX2560 : Statement .bX2560 := of_codeword rfl
theorem wEol : Statement .wEol := of_codeword rfl
theorem bEol : Statement .bEol := of_codeword rfl
theorem reset : Statement .reset := of_soundCheck (by decide +kernel)
theorem start : Statement .start := of_soundCheck (by decide +kernel)
theorem bit (b : Bool) : Statement (.bit b) := of_soundCheck (by cases b <;> decide +kernel)
theorem endData : Statement .endData := of_soundCheck (by decide +kernel)
theorem accept : Statement .accept := of_soundCheck (by decide +kernel)
theorem idle : Statement .idle := of_soundCheck (by decide +kernel)

end Sys2Proof.Laws.EncodingSound
end

