-- ==== Sys2Proof/Laws/Step.lean ====
section
/-! SUPPORT. One step, runs of steps and sequences of instructions, said once: the operation of a cycle, what a `Bit` cycle
needs, how a run and a sequence go on. -/

namespace Sys2Proof.Machine

/-- The host's side of a cycle touches no register. -/
theorem advanceHost_registers (s : State) : s.advanceHost.registers = s.registers := rfl

/-- The host's side of a cycle does not change what the decoder awaits. -/
theorem advanceHost_awaits (s : State) (cw : Codeword) : s.advanceHost.awaits cw = s.awaits cw := rfl

/-- A cycle that chooses `Bit` is a cycle in `READING` in which a bit is offered (R105). -/
theorem reading_of_cycleOp_bit {s : State} (h : s.cycleOp = .bit) : s.st = .reading ∧ s.ports.bitValid = true := by
  unfold State.cycleOp selectOp at h
  split at h
  · cases h
  split at h
  · cases h
  split at h
  · assumption
  split at h
  · cases h
  split at h <;> cases h

/-- The first bit of the source is the bit on the port (R106). -/
theorem source_of_bitValid {s : State} (h : s.ports.bitValid = true) : s.source = s.ports.bitIn :: s.source.tail := by
  cases hs : s.source with
  | nil => simp [State.ports, hs] at h
  | cons b bs => simp [State.ports, hs]

/-- A run of one more step. -/
theorem run_next {M : Host.Core} {n : Nat} {s t : M.State} (h : M.step s = .next t) : M.run (n + 1) s = M.run n t := by
  show (match M.step s with
    | .next t => M.run n t
    | .fault r => .fault r
    | .refused r => .refused r) = _
  rw [h]

/-- A sequence goes on from where its first part ends. -/
theorem execAll_append {a b : List Instr} {s t : State} (h : execAll a s = .next t) :
    execAll (a ++ b) s = execAll b t := by
  induction a generalizing s with
  | nil => cases h; rfl
  | cons i is ih =>
    simp only [List.cons_append, execAll] at *
    cases hx : exec i s with
    | next u => rw [hx] at h; exact ih h
    | fault r => rw [hx] at h; cases h
    | refused r => rw [hx] at h; cases h

end Sys2Proof.Machine
end

