-- ==== Sys2Proof/Tests/Slice0.lean ====
section
/-! SUPPORT. The model's own tests: ill-formed tables and codewords that the checks refuse, words of the spec that decode,
the LUT vectors and single steps of spec/95_test_vectors.md, and for every statement with hypotheses a witness that
meets them. -/

namespace Sys2Proof.Tests

open Sys2Proof Sys2Proof.Machine Sys2Proof.Claims

set_option Elab.async false

/-! ### Helpers -/

/-- The decoder within a codeword of a bank: so many bits held, of this value, and a makeup sum pending. -/
def within (c : Color) (len acc : Nat) (sum : Nat) : State :=
  { State.reset with color := c, codeLen := BitVec.ofNat 4 len, codeAcc := BitVec.ofNat 14 acc,
                     runAcc := BitVec.ofNat 32 sum }

/-- A run of white, of length 2, is held (V1). -/
def holding : State := { State.reset with st := .runComplete, color := .black, outLen := 2 }

/-- The end state of an overflow (V23, with 32 bits for the sum). -/
def overflowed : State :=
  { State.reset with st := .error, errCode := .runOverflow, runAcc := 2560, codeAcc := 0b010011001, codeLen := 9 }

/-- After one run of white, accepted. -/
def oneDelivered : State := { State.reset with color := .black, outLen := 2, delivered := [⟨.white, 2⟩] }

/-- A state with this `st`. -/
def inState (st : St) : State := { State.reset with st := st }

/-- The same state with one move of the host and this source. -/
def withHost (m : HostMove) (source : List Bool) (s : State) : State := { s with script := [m], source := source }

/-- The state an instruction leaves. -/
def after (i : Instr) (s : State) : Option State := nextOf (exec i s)

/-- The state a step leaves. -/
def stepped (s : State) : Option State := nextOf (step s)

/-- A test of the state a step or an instruction leaves. -/
def leaves (r : Option State) (p : State → Bool) : Bool :=
  match r with
  | some t => p t
  | none => false

/-- The bits decode to the instruction, and no bit is left. -/
def decodesTo (c : Color) (bits : List Bool) (i : Instr) : Bool :=
  match decodeBits c bits with
  | .ok (j, rest) => j == i && rest.isEmpty
  | .error _ => false

/-- The bits are refused. -/
def refuses (c : Color) (bits : List Bool) (e : DecodeError) : Bool :=
  match decodeBits c bits with
  | .ok _ => false
  | .error d => d == e

/-- The port word decodes to the instruction. -/
def portIs (w : BitVec 8) (i : Instr) : Bool :=
  match decodePort w with
  | .ok j => j == i
  | .error _ => false

/-- A row of the code tables decodes: from its bits, and as a window with zeros behind it. -/
def rowDecodes (c : Color) (r : Row) : Bool :=
  decodesTo c (bitsOf r.code.len r.code.pattern.toNat) r.instr &&
    decodeWordIn c 16 (r.code.pattern.toNat * 2 ^ (13 - r.code.len)) == some r.instr

/-- The lookup answers the entry of this ROM word. -/
def hits (c : Color) (len : Nat) (p : CodeAcc) (w : LutWord) : Bool := lutRead t4mh c len p == some (entryOf w)

/-- A table with one word more in its white bank. -/
def plus (w : LutWord) : LutTable := { t4mh with white := w :: t4mh.white }

/-- A LUT word from its fields (R61). -/
def word (kind : BitVec 2) (len : BitVec 4) (pattern : BitVec 13) (shared : BitVec 1) (value : BitVec 12) : LutWord :=
  kind ++ len ++ pattern ++ shared ++ value

/-- The check of a configuration fails, and it is refused. -/
def isRefused (t : LutTable) : Bool :=
  !t.wellFormed &&
    match admitTable t with
    | .error .malformedTable => true
    | .error (.notModelled _) => false
    | .ok _ => false

/-! ### Ill-formed terms, which the checks refuse (R60, R65, R125) -/

/-- A codeword of 1 bit, one of 14 bits, one whose pattern needs more bits than it has. -/
theorem test_codeword_ill_formed :
    Codeword.wellFormed ⟨.white, 1, 1⟩ = false ∧ Codeword.wellFormed ⟨.black, 14, 1⟩ = false ∧
    Codeword.wellFormed ⟨.white, 4, 16⟩ = false ∧ Codeword.wellFormed ⟨.white, 4, 15⟩ = true := by decide +kernel

/-- R65 (a): the word of `W.T2` twice. -/
theorem test_table_duplicate :
    (plus 0x1000E002#32).noDuplicates .white = false ∧ isRefused (plus 0x1000E002#32) = true := by decide +kernel

/-- R65 (b): `01110`, an extension of `W.T2`. -/
theorem test_table_prefix :
    (plus (word 0 5 0b01110 0 0)).prefixFree .white = false ∧ isRefused (plus (word 0 5 0b01110 0 0)) = true := by
  decide +kernel

/-- R65 (c): a length of 1 and of 14, a pattern too large for its length, a terminating value of 64, makeup values of 0, 65
and 2624. -/
theorem test_table_range :
    ([word 0 1 0 0 0, word 0 14 0 0 0, word 0 4 16 0 0, word 0 9 1 0 64, word 1 9 1 0 0, word 1 9 1 0 65,
      word 1 9 1 0 2624].all fun w => !(plus w).inRange .white && isRefused (plus w)) = true := by decide +kernel

/-- R65 (d): a run length missing, and an EOL code that is not eleven zeros and a one. -/
theorem test_table_incomplete :
    isRefused { t4mh with white := t4mh.white.tail } = true ∧
    LutTable.complete { t4mh with white := t4mh.white.tail } .white = false ∧
    LutTable.complete { t4mh with black := word 2 12 2 1 0xFFF :: t4mh.black.filter (fun w => lutKind w ≠ .eol) } .black
      = false := by decide +kernel

/-- R65 (e): the two banks' codes for 1792 differ. -/
theorem test_table_shared_differs :
    LutTable.sharedIdentical { t4mh with black := t4mh.black.map fun w => if w = 0x6C011700#32 then 0x6C013700#32 else w }
      = false := by decide +kernel

/-! ### Decoding: the spec's words -/

/-- R66: every white terminating codeword, from the `bits` column. -/
theorem test_decode_white_terminating : (whiteTermTable.all (rowDecodes .white)) = true := by decide +kernel

/-- R67, R68: every white makeup codeword. -/
theorem test_decode_white_makeup : (whiteMakeupTable.all (rowDecodes .white)) = true := by decide +kernel

/-- R70: every black terminating codeword. -/
theorem test_decode_black_terminating : (blackTermTable.all (rowDecodes .black)) = true := by decide +kernel

/-- R71, R68: every black makeup codeword. -/
theorem test_decode_black_makeup : (blackMakeupTable.all (rowDecodes .black)) = true := by decide +kernel

/-- R69: eleven zeros and a one, in both banks. -/
theorem test_decode_eol :
    decodesTo .white [false, false, false, false, false, false, false, false, false, false, false, true] .wEol = true ∧
    decodesTo .black [false, false, false, false, false, false, false, false, false, false, false, true] .bEol = true := by
  decide +kernel

/-- The tables have a row for every codeword: 64 + 40 + 1 in each bank (R60, R65). -/
theorem test_table_sizes :
    whiteTermTable.length = 64 ∧ whiteMakeupTable.length = 40 ∧ blackTermTable.length = 64 ∧
    blackMakeupTable.length = 40 := by decide +kernel

/-- White families, bit by bit: `W.T0` 00110101, `W.M1728` 010011011, `W.X2560` 000000011111. -/
theorem test_decode_white_words :
    decodesTo .white [false, false, true, true, false, true, false, true] .wT0 = true ∧
    decodesTo .white [false, true, false, false, true, true, false, true, true] .wM1728 = true ∧
    decodesTo .white [false, false, false, false, false, false, false, true, true, true, true, true] .wX2560 = true := by
  decide +kernel

/-- Black families, bit by bit: `B.T0` 0000110111, `B.M1728` 0000001100101, `B.X1792` 00000001000. -/
theorem test_decode_black_words :
    decodesTo .black [false, false, false, false, true, true, false, true, true, true] .bT0 = true ∧
    decodesTo .black [false, false, false, false, false, false, true, true, false, false, true, false, true] .bM1728
      = true ∧
    decodesTo .black [false, false, false, false, false, false, false, true, false, false, false] .bX1792 = true := by
  decide +kernel

/-- R74: a control vector for each host operation, don't-care bits set and clear. -/
theorem test_decode_ports :
    portIs 0b10000 .reset = true ∧ portIs 0b11111 .reset = true ∧ portIs 0b01000 .start = true ∧
    portIs 0b01111 .start = true ∧ portIs 0b00100 (.bit false) = true ∧ portIs 0b100111 (.bit true) = true ∧
    portIs 0b00010 .endData = true ∧ portIs 0b00011 .endData = true ∧ portIs 0b00001 .accept = true ∧
    portIs 0b00000 .idle = true ∧ portIs 0b1000000 .idle = false := by decide +kernel

/-- R72, R123: twelve zeros are no white codeword at 13 bits; `01` is the first part of one. S4: the source's literal
`00000000100` is none either. -/
theorem test_decode_refuses :
    refuses .white (List.replicate 13 false) .unassignedCodeword = true ∧
    refuses .white [false, true] .truncatedCodeword = true ∧
    refuses .white [false, false, false, false, false, false, false, false, true, false, false, false, false]
      .unassignedCodeword = true := by decide +kernel

/-- R47: the bytes `0x34 0x80` begin with `W.T63`, `00110100`, bit 7 of the first byte first. -/
theorem test_decode_bytes :
    (match decodeBytes .white [0x34#8, 0x80#8] with
      | .ok (i, rest) => i == .wT63 && rest == [true, false, false, false, false, false, false, false]
      | .error _ => false) = true := by decide +kernel

/-- The table words of a white row, of a port row, and of no row. -/
theorem test_table_words :
    decodeTableWord 16 0x0E00 = some .wT2 ∧ decodeTableWord 16 0x0002 = some .wEol ∧
    decodeTableWord 8 0x10 = some .reset ∧ decodeTableWord 8 0x04 = some (.bit false) ∧
    decodeTableWord 16 0x0000 = none ∧ decodeWordIn .black 16 0x1800 = some .bT2 := by decide +kernel

/-! ### The LUT vectors of spec/95_test_vectors.md -/

/-- L1 to L7. -/
theorem test_lut_terminating :
    hits .white 4 0b0111 0x1000E002#32 = true ∧ hits .black 2 0b11 0x08006002#32 = true ∧
    hits .black 3 0b010 0x0C004001#32 = true ∧ hits .white 5 0b11011 0x54036040#32 = true ∧
    hits .white 8 0b00110101 0x2006A000#32 = true ∧ hits .white 8 0b00110100 0x2006803F#32 = true ∧
    hits .black 10 0b0000110111 0x2806E000#32 = true := by decide +kernel

/-- L8 to L13. -/
theorem test_lut_makeup_eol :
    hits .white 11 0b00000001000 0x6C011700#32 = true ∧ hits .black 11 0b00000001000 0x6C011700#32 = true ∧
    hits .white 12 1 0xB0002FFF#32 = true ∧ hits .black 12 1 0xB0002FFF#32 = true ∧
    hits .white 9 0b010011011 0x641366C0#32 = true ∧ hits .black 13 0b0000001100101 0x740CA6C0#32 = true := by
  decide +kernel

/-- L14 to L19. -/
theorem test_lut_miss :
    lutRead t4mh .white 2 0b11 = none ∧ lutRead t4mh .white 1 0 = none ∧ lutRead t4mh .white 13 0 = none ∧
    lutRead t4mh .black 14 1 = none ∧ lutRead t4mh .white 11 0b00000000100 = none ∧
    hits .white 4 0b11111111110111 0x1000E002#32 = true := by decide +kernel

/-- The ROM addresses of L1 to L13, and L20. -/
theorem test_rom_words :
    romWord t4mh 0x00 = 0x1000E002#32 ∧ romWord t4mh 0x81 = 0x08006002#32 ∧ romWord t4mh 0x82 = 0x0C004001#32 ∧
    romWord t4mh 0x0B = 0x54036040#32 ∧ romWord t4mh 0x3A = 0x2006A000#32 ∧ romWord t4mh 0x39 = 0x2006803F#32 ∧
    romWord t4mh 0x93 = 0x2806E000#32 ∧ romWord t4mh 0x5B = 0x6C011700#32 ∧ romWord t4mh 0x94 = 0x6C011700#32 ∧
    romWord t4mh 0x4E = 0x641366C0#32 ∧ romWord t4mh 0xE0 = 0x740CA6C0#32 ∧ romWord t4mh 0x69 = 0xC0000000#32 ∧
    romWord t4mh 0xFF = 0xC0000000#32 := by decide +kernel

/-! ### Single steps -/

/-- V1, the last cycle: the bit `1` after `011` completes `W.T2`. -/
theorem test_V1 :
    leaves (stepped (withHost offerBit [true] (within .white 3 0b011 0))) (fun t =>
      t.st == .runComplete && t.color == .black && t.outColor == .white && t.outLen == 2 && t.codeLen == 0 &&
      t.codeAcc == 0 && t.consumed == 1 && t.source.isEmpty) = true := by decide +kernel

/-- V2, the last cycle: `011` is a first part of white codewords. -/
theorem test_V2 :
    leaves (stepped (withHost offerBit [true, true] (within .white 2 0b01 0))) (fun t =>
      t.st == .reading && t.codeAcc == 0b011 && t.codeLen == 3 && t.source == [true]) = true := by decide +kernel

/-- V3 and V4: the 12th zero is held in white, the 13th is overlong. -/
theorem test_V3_V4 :
    leaves (after (.bit false) (within .white 11 0 0)) (fun t => t.st == .reading && t.codeLen == 12) = true ∧
    leaves (after (.bit false) (within .white 12 0 0)) (fun t =>
      t.st == .error && t.errCode == .invalidCodeword && t.codeLen == 13 && t.codeAcc == 0) = true := by decide +kernel

/-- V5 and V6: the 13th zero is held in black, the 14th is overlong. -/
theorem test_V5_V6 :
    leaves (after (.bit false) (within .black 12 0 0)) (fun t => t.st == .reading && t.codeLen == 13) = true ∧
    leaves (after (.bit false) (within .black 13 0 0)) (fun t =>
      t.st == .error && t.errCode == .invalidCodeword && t.codeLen == 14 && t.color == .black) = true := by
  decide +kernel

/-- S3 and V9: `W.M64` leaves the sum 64 in white; `W.T2` then completes a run of 66. -/
theorem test_S3_V9 :
    leaves (after .wM64 State.reset) (fun t =>
      t.st == .reading && t.color == .white && t.runAcc == 64 && t.codeLen == 0 && t.outLen == 0) = true ∧
    leaves (after .wT2 (within .white 0 0 64)) (fun t =>
      t.st == .runComplete && t.color == .black && t.runAcc == 0 && t.outLen == 66) = true := by decide +kernel

/-- S2 and S7: `B.T2` and `B.T5` in the black bank. -/
theorem test_S2_S7 :
    leaves (after .bT2 (within .black 0 0 0)) (fun t => t.outColor == .black && t.outLen == 2 && t.color == .white) = true ∧
    leaves (after .bT5 (within .black 0 0 0)) (fun t => t.outColor == .black && t.outLen == 5) = true := by decide +kernel

/-- S4 (a): the shared code for 1792 in both banks. -/
theorem test_S4 :
    leaves (after .wX1792 State.reset) (fun t => t.runAcc == 1792 && t.color == .white) = true ∧
    leaves (after .bX1792 (within .black 0 0 0)) (fun t => t.runAcc == 1792 && t.color == .black) = true := by
  decide +kernel

/-- V12, V13, V14: the EOL codeword in white, in black, and with a makeup sum pending. -/
theorem test_eol_vectors :
    leaves (after .wEol State.reset) (fun t => t.st == .endOfLine && t.color == .white && t.errCode == .none) = true ∧
    leaves (after .bEol (within .black 0 0 0)) (fun t => t.st == .endOfLine && t.color == .black) = true ∧
    leaves (after .wEol (within .white 11 0 64)) (fun t => t.st == .endOfLine && t.runAcc == 64) = true := by
  decide +kernel

/-- R75: `W.EOL` in the black bank is its bits there, `B.EOL`; `W.T2`, `0111`, is `B.T4` and a bit of which nothing is
consumed in `RUN_COMPLETE`. -/
theorem test_other_bank :
    leaves (after .wEol (within .black 0 0 0)) (fun t => t.st == .endOfLine) = true ∧
    leaves (after .wT2 (within .black 0 0 0)) (fun t => t.outLen == 4 && t.outColor == .black) = true := by decide +kernel

/-- V22b: `Start` drops the held run, whatever `run_ready` says. -/
theorem test_V22b :
    leaves (stepped (withHost { HostMove.quiet with start := true, runReady := true } [] holding)) (fun t =>
      t.st == .reading && t.delivered.isEmpty && t.outLen == 0 && t.color == .white) = true := by decide +kernel

/-- V23: 2560 + 1536 does not fit 12 bits, and fits 32. -/
theorem test_V23 :
    checkedAdd 12 2560#12 1536 = none ∧ checkedAdd 12 2560#12 1535 = some 4095#12 ∧
    checkedAdd 32 2560#32 1536 = some 4096#32 := by decide +kernel

/-- R91, R124: the overflow at 32 bits keeps the sum and holds the codeword. -/
theorem test_overflow :
    leaves (after .wM64 (within .white 0 0 0xFFFFFFC0)) (fun t =>
      t.st == .error && t.errCode == .runOverflow && t.runAcc == 0xFFFFFFC0#32 && t.codeAcc == 0b11011 &&
      t.codeLen == 5) = true := by decide +kernel

/-- V24: a bit offered in `END_OF_LINE` is not consumed. -/
theorem test_V24 :
    leaves (stepped (withHost offerBit [false, true, true, true] (inState .endOfLine))) (fun t =>
      t.st == .endOfLine && t.source == [false, true, true, true] && t.consumed == 0) = true := by decide +kernel

/-- V25, cycles 1 and 3: a bit comes before the end of data; `End` within a codeword is unexpected. -/
theorem test_V25 :
    leaves (stepped (withHost { HostMove.quiet with bitValid := true, bitEnd := true } [false] State.reset)) (fun t =>
      t.st == .reading && t.codeLen == 1 && t.consumed == 1) = true ∧
    leaves (stepped (withHost { HostMove.quiet with bitEnd := true } [] (within .white 2 0b01 0))) (fun t =>
      t.st == .error && t.errCode == .unexpectedEndOfData && t.codeLen == 2 && t.codeAcc == 0b01) = true := by
  decide +kernel

/-- V26: `Reset` from the end state of an overflow, with everything else asserted. -/
theorem test_V26 :
    leaves (stepped (withHost
        { rst := true, start := true, bitValid := true, bitEnd := false, runReady := true, newSource := none } [true]
        overflowed)) (fun t =>
      t.registers == State.reset.registers && t.source == [true] && t.consumed == 0 &&
      t.outputs.bitReady && !t.outputs.err) = true := by decide +kernel

/-- V27, cycles 1, 3 and 4: idle, accept, and the next bit in black. -/
theorem test_V27 :
    leaves (stepped (withHost offerBit [true] holding)) (fun t => t.st == .runComplete && t.source == [true]) = true ∧
    leaves (stepped (withHost { offerBit with runReady := true } [true] holding)) (fun t =>
      t.st == .reading && t.delivered == [⟨.white, 2⟩] && t.source == [true]) = true ∧
    leaves (stepped (withHost offerBit [true] { holding with st := .reading })) (fun t =>
      t.codeLen == 1 && t.codeAcc == 1 && t.color == .black && t.consumed == 1) = true := by decide +kernel

/-- R103: an end of data between runs is clean; with a makeup sum pending it is not. -/
theorem test_end_of_data :
    leaves (after .endData State.reset) (fun t => t.st == .endOfData && t.errCode == .none) = true ∧
    leaves (after .endData (within .white 0 0 64)) (fun t =>
      t.st == .error && t.errCode == .unexpectedEndOfData && t.runAcc == 64) = true := by decide +kernel

/-- R28: the outputs with a run held, and the LUT's constants (R44). -/
theorem test_outputs :
    holding.outputs.runValid = true ∧ holding.outputs.bitReady = false ∧ holding.outputs.runLen = 2 ∧
    holding.outputs.dbgState = 1 ∧ holding.outputs.lmaxW = 12 ∧ holding.outputs.lmaxB = 13 := by decide +kernel

/-- Log entry 3: the host positions its source anew in a `Start` cycle with no bit offered, and not in another. -/
theorem test_new_source :
    leaves (stepped (withHost { HostMove.quiet with start := true, newSource := some [true] } [false] State.reset))
      (fun t => t.source == [true]) = true ∧
    leaves (stepped (withHost { HostMove.quiet with newSource := some [true] } [false] State.reset))
      (fun t => t.source == [false]) = true := by decide +kernel

/-- R106: a `bit_end` raised while a run is held stays at 1 with a quiet host, and through `Accept`; the `End` that it then
asks for ends the data. -/
theorem test_bit_end_kept :
    leaves (stepped (withHost { HostMove.quiet with bitEnd := true } [] holding)) (fun t =>
      t.st == .runComplete && t.endHeld && t.ports.bitEnd) = true ∧
    leaves (stepped (withHost { HostMove.quiet with runReady := true } [] { holding with endHeld := true })) (fun t =>
      t.st == .reading && t.ports.bitEnd && t.cycleOp == .endData) = true ∧
    leaves (stepped (withHost HostMove.quiet [] { oneDelivered with endHeld := true })) (fun t =>
      t.st == .endOfData && !t.ports.bitEnd) = true := by decide +kernel

/-- R106: `Start` and `Reset` release `bit_end`; and it is not raised while a bit remains that is not offered. -/
theorem test_bit_end_released :
    ([{ HostMove.quiet with start := true }, { HostMove.quiet with rst := true }].all fun m =>
      leaves (stepped (withHost m [] { holding with endHeld := true })) (fun t => !t.endHeld && !t.ports.bitEnd)) = true ∧
    leaves (stepped (withHost { HostMove.quiet with bitEnd := true } [true] State.reset)) (fun t =>
      t.st == .reading && !t.endHeld) = true := by decide +kernel

/-- R44, R62: an `EMPTY` word is no entry, whatever its `bitLength` field holds. -/
theorem test_lmax_without_empty :
    lmax (plus (word 3 13 0 0 0)) .white = 12 ∧ lmax (plus (word 0 13 0 0 0)) .white = 13 := by decide +kernel

/-- R29: the step over another table, in which `0111` is a white run of 3, reads that table. -/
theorem test_step_over_another_table :
    leaves (nextOf (stepOver { t4mh with white := [word 0 4 0b0111 0 3] }
      (withHost offerBit [true] (within .white 3 0b011 0)))) (fun t => t.st == .runComplete && t.outLen == 3) = true ∧
    leaves (nextOf (stepOver { t4mh with white := [word 0 4 0b0111 0 3] }
      (withHost offerBit [true] (within .white 4 0 0)))) (fun t => t.errCode == .invalidCodeword && t.codeLen == 5) = true := by
  decide +kernel

/-- A placed table word is what the next step runs after reset: `W.T2`, and `End`. -/
theorem test_fetch :
    leaves (stepped (State.reset.withFetchWord 16 0x0E00)) (fun t => t.st == .runComplete && t.outLen == 2) = true ∧
    leaves (stepped (State.reset.withFetchWord 8 0x02)) (fun t => t.st == .endOfData) = true := by decide +kernel

/-- R76: the expansions of the spec's lengths: `RUN(W, 2)`, `RUN(W, 5125)`, `RUN(B, 1792)`. -/
theorem test_expansions :
    runCodes .white 2 = [.wT2] ∧ runCodes .white 5125 = [.wX2560, .wX2560, .wT5] ∧
    runCodes .black 1792 = [.bX1792, .bT0] ∧ runCodes .white 2623 = [.wX2560, .wT63] ∧
    runCodes .white 2624 = [.wX2560, .wM64, .wT0] := by decide +kernel

/-! ### Witnesses: for every statement with hypotheses, concrete values that meet them together, at the boundaries of each
clause -/

/-- For CodewordDecodesWhateverFollows: the longest and the shortest codeword. -/
theorem test_witness_CodewordDecodesWhateverFollows :
    Instr.codeword .bM512 = some ⟨.black, 13, 0b0000001101100⟩ ∧ Instr.codeword .bT2 = some ⟨.black, 2, 0b11⟩ := by
  decide +kernel

/-- For DecodedBitsBeginWithTheCodeword: a codeword with nothing behind it, and one with a bit behind it. -/
theorem test_witness_DecodedBitsBeginWithTheCodeword :
    decodeBits .black [true, true] = .ok (.bT2, []) ∧ decodeBits .black [true, true, false] = .ok (.bT2, [false]) := by
  decide +kernel

/-- For WindowDecodesByItsLeadingBits: a window whose bits behind the codeword are ones, and a window of no codeword. -/
theorem test_witness_WindowDecodesByItsLeadingBits :
    (decodeWindow .white 0b0111111111111).toOption = some .wT2 ∧ (decodeWindow .white 0).toOption = none := by
  decide +kernel

/-- For MalformedTableIsRefused: a table of each kind, and one that fails (a) to (e) each. -/
theorem test_witness_MalformedTableIsRefused :
    t4mh.wellFormed = true ∧ LutTable.wellFormed { t4mh with white := [] } = false ∧
    ([plus 0x1000E002#32, plus (word 0 5 0b01110 0 0), plus (word 0 9 1 0 64), { t4mh with white := t4mh.white.tail },
      { t4mh with black := t4mh.black.map fun w => if w = 0x6C011700#32 then 0x6C013700#32 else w }].all
      fun t => !t.wellFormed) = true := by decide +kernel

/-- For LutReadFindsTheOneEntry: a hit, and the lengths 0 and 14. -/
theorem test_witness_LutReadFindsTheOneEntry :
    lutRead t4mh .white 4 0b0111 = some ⟨.term, 4, 7, false, 2⟩ ∧ lutRead t4mh .white 0 0 = none ∧
    lutRead t4mh .black 14 0 = none := by decide +kernel

/-- For RomAddressMap: the first and the last empty index. -/
theorem test_witness_RomAddressMap : 105 ≤ (105#7).toNat ∧ 105 ≤ (127#7).toNat := by decide +kernel

/-- For LutHoldsTheCodeTables: a row of each table. -/
theorem test_witness_LutHoldsTheCodeTables :
    (termTable .white).contains (row .wT63 .white 8 0b00110100 63) = true ∧
    (termTable .black).contains (row .bT0 .black 10 0b0000110111 0) = true ∧
    (makeupTable .white).contains (row .wM1728 .white 9 0b010011011 1728) = true ∧
    (makeupTable .black).contains (row .bX2560 .black 12 0b000000011111 2560) = true ∧
    eolTable.contains (.wEol, ⟨.white, 12, 1⟩) = true := by decide +kernel

/-- For BitOutsideReadingChangesNothing, AcceptElsewhereChangesNothing and NothingElseActsOutsideReading: a state of error,
a held run. -/
theorem test_witness_outside_reading :
    (inState .error).st ≠ .reading ∧ holding.st ≠ .reading ∧ (inState .error).st ≠ .runComplete ∧
    Instr.wT2 ≠ .start ∧ Instr.wT2 ≠ .reset ∧ Instr.wT2 ≠ .accept ∧ State.reset.st ≠ .runComplete := by decide +kernel

/-- For NothingElseActsOutsideReading with `Accept`: a state in which it is not enabled. -/
theorem test_witness_NothingElseActsOutsideReading :
    (inState .endOfData).st ≠ .reading ∧ Instr.accept ≠ .start ∧ Instr.accept ≠ .reset ∧
    (Instr.accept = .accept → (inState .endOfData).st ≠ .runComplete) := by decide +kernel

/-- For AccumulatorShiftsInTheBit: no bit held, and 13 ones held. -/
theorem test_witness_AccumulatorShiftsInTheBit :
    State.reset.CodeFits ∧ State.reset.codeLen.toNat ≤ 13 ∧
    (within .black 13 0x1FFF 0).CodeFits ∧ (within .black 13 0x1FFF 0).codeLen.toNat ≤ 13 := by decide +kernel

/-- For ShortMissContinues: the first bit, and the length `LMAX` of each bank. -/
theorem test_witness_ShortMissContinues :
    ([(within .white 0 0 0), (within .white 11 0 0), (within .black 12 0 0)].all fun s =>
      s.st == .reading && lutRead t4mh s.color (nextLen s) (shiftIn s.codeAcc false) == none &&
      decide (nextLen s ≤ lmax t4mh s.color)) = true := by decide +kernel

/-- For OverlongMissIsInvalidCodeword: the length `LMAX + 1` of each bank, and the lengths 15 and 16, which no run
reaches. -/
theorem test_witness_OverlongMissIsInvalidCodeword :
    ([(within .white 12 0 0), (within .black 13 0 0), (within .white 14 0 0), (within .white 15 0 0)].all fun s =>
      s.st == .reading && lutRead t4mh s.color (nextLen s) (shiftIn s.codeAcc false) == none &&
      decide (lmax t4mh s.color < nextLen s)) = true ∧ (within .white 14 0 0).codeLen ≠ 15 := by decide +kernel

/-- For TerminatingHitCompletesTheRun: `0111` with the largest sum that fits with 2, and with the next one. -/
theorem test_witness_TerminatingHitCompletesTheRun :
    ([0xFFFFFFFD, 0xFFFFFFFE].all fun n =>
      (within .white 3 0b011 n).st == .reading &&
      lutRead t4mh .white (nextLen (within .white 3 0b011 n)) (shiftIn (within .white 3 0b011 n).codeAcc true)
        == some ⟨.term, 4, 7, false, 2⟩) = true ∧
    (within .white 3 0b011 0xFFFFFFFD).runAcc.toNat + 2 < 2 ^ 32 ∧
    ¬ (within .white 3 0b011 0xFFFFFFFE).runAcc.toNat + 2 < 2 ^ 32 := by decide +kernel

/-- For MakeupHitExtendsTheRun: `11011` with the largest sum that fits with 64, and with the next multiple of 64. -/
theorem test_witness_MakeupHitExtendsTheRun :
    ([0xFFFFFF80, 0xFFFFFFC0].all fun n =>
      (within .white 4 0b1101 n).st == .reading &&
      lutRead t4mh .white (nextLen (within .white 4 0b1101 n)) (shiftIn (within .white 4 0b1101 n).codeAcc true)
        == some ⟨.makeup, 5, 27, false, 64⟩) = true ∧
    (within .white 4 0b1101 0xFFFFFF80).runAcc.toNat + 64 < 2 ^ 32 ∧
    ¬ (within .white 4 0b1101 0xFFFFFFC0).runAcc.toNat + 64 < 2 ^ 32 := by decide +kernel

/-- For EolHitEndsTheLine: the twelfth bit, with a makeup sum pending. -/
theorem test_witness_EolHitEndsTheLine :
    (within .black 11 0 64).st = .reading ∧
    lutRead t4mh .black (nextLen (within .black 11 0 64)) (shiftIn (within .black 11 0 64).codeAcc true)
      = some ⟨.eol, 12, 1, false, 0xFFF⟩ := by decide +kernel

/-- For RunSumsNeverWrap: both outcomes at 12 bits. -/
theorem test_witness_RunSumsNeverWrap :
    checkedAdd 12 2560#12 1535 = some 4095#12 ∧ 2 ^ 12 ≤ (2560#12).toNat + 1536 := by decide +kernel

/-- For FreshDecoderAwaitsItsBank: the state after reset, and a decoder one bit before the end of a codeword. -/
theorem test_witness_FreshDecoderAwaitsItsBank :
    Instr.codeword .wT2 = some ⟨.white, 4, 7⟩ ∧ State.reset.Fresh ∧ State.reset.color = .white ∧
    (within .white 3 0b011 0).awaits ⟨.white, 4, 7⟩ = true ∧ (within .white 3 0b011 0).CodeFits := by decide +kernel

/-- For the four statements of terminating and makeup codewords: a row of each table, awaited, with the largest sum that
fits. -/
theorem test_witness_codewords :
    whiteTermTable.contains (row .wT63 .white 8 0b00110100 63) = true ∧
    (within .white 7 0b0011010 (2 ^ 32 - 64)).awaits ⟨.white, 8, 0b00110100⟩ = true ∧
    blackTermTable.contains (row .bT0 .black 10 0b0000110111 0) = true ∧
    (within .black 0 0 (2 ^ 32 - 1)).awaits ⟨.black, 10, 0b0000110111⟩ = true ∧
    whiteMakeupTable.contains (row .wM64 .white 5 0b11011 64) = true ∧
    (within .white 1 1 (2 ^ 32 - 65)).awaits ⟨.white, 5, 0b11011⟩ = true ∧
    blackMakeupTable.contains (row .bX2560 .black 12 0b000000011111 2560) = true ∧
    (within .black 11 0b00000001111 0).awaits ⟨.black, 12, 0b000000011111⟩ = true ∧
    (within .white 7 0b0011010 (2 ^ 32 - 64)).runAcc.toNat + 63 < 2 ^ 32 ∧
    (within .black 0 0 (2 ^ 32 - 1)).runAcc.toNat + 0 < 2 ^ 32 ∧
    (within .white 1 1 (2 ^ 32 - 65)).runAcc.toNat + 64 < 2 ^ 32 ∧
    (within .black 11 0b00000001111 0).runAcc.toNat + 2560 < 2 ^ 32 := by decide +kernel

/-- For EolCodewordsEndTheLine: both banks, at the first bit and at the last. -/
theorem test_witness_EolCodewordsEndTheLine :
    eolTable.contains (.wEol, ⟨.white, 12, 1⟩) = true ∧ State.reset.awaits ⟨.white, 12, 1⟩ = true ∧
    eolTable.contains (.bEol, ⟨.black, 12, 1⟩) = true ∧ (within .black 11 0 64).awaits ⟨.black, 12, 1⟩ = true := by
  decide +kernel

/-- For OverflowHoldsTheCodeword: a makeup code, and a terminating code in a state that no run reaches. -/
theorem test_witness_OverflowHoldsTheCodeword :
    (makeupTable .white ++ termTable .white).contains (row .wM64 .white 5 0b11011 64) = true ∧
    (within .white 4 0b1101 (2 ^ 32 - 64)).awaits ⟨.white, 5, 0b11011⟩ = true ∧
    (within .white 4 0b1101 (2 ^ 32 - 64)).CodeFits ∧
    2 ^ 32 ≤ (within .white 4 0b1101 (2 ^ 32 - 64)).runAcc.toNat + 64 ∧
    (makeupTable .black ++ termTable .black).contains (row .bT1 .black 3 0b010 1) = true ∧
    (within .black 0 0 (2 ^ 32 - 1)).awaits ⟨.black, 3, 0b010⟩ = true ∧
    (within .black 0 0 (2 ^ 32 - 1)).CodeFits ∧ 2 ^ 32 ≤ (within .black 0 0 (2 ^ 32 - 1)).runAcc.toNat + 1 := by
  decide +kernel

/-- For TerminatingCodewordsNeverOverflow: the longest run and the largest sum of makeup codes. -/
theorem test_witness_TerminatingCodewordsNeverOverflow :
    (termTable .white).contains (row .wT63 .white 8 0b00110100 63) = true ∧
    (within .white 0 0 (2 ^ 32 - 64)).awaits ⟨.white, 8, 0b00110100⟩ = true ∧
    (within .white 0 0 (2 ^ 32 - 64)).SumOfMakeups := by decide +kernel

/-- For CodewordIsItsRemainingBits and UnawaitedCodewordIsJustBits: a codeword awaited, one of the other bank, one that the
bits held are no part of. -/
theorem test_witness_awaited :
    Instr.codeword .bM512 = some ⟨.black, 13, 0b0000001101100⟩ ∧
    (within .black 12 0b000000110110 0).awaits ⟨.black, 13, 0b0000001101100⟩ = true ∧
    (within .white 0 0 0).awaits ⟨.black, 13, 0b0000001101100⟩ = false ∧
    (within .black 1 1 0).awaits ⟨.black, 13, 0b0000001101100⟩ = false := by decide +kernel

/-- For AcceptDeliversTheHeldRun and EndOfDataIsCleanOrUnexpected: a held run; a clean end, an end within a codeword, an
end within a run, an end while a run is held. -/
theorem test_witness_accept_end :
    holding.st = .runComplete ∧ State.reset.st = .reading ∧ State.reset.codeLen = 0 ∧ State.reset.runAcc = 0 ∧
    (within .white 1 0 0).st = .reading ∧ ¬ (within .white 1 0 0).codeLen = 0 ∧
    (within .white 0 0 64).st = .reading ∧ ¬ (within .white 0 0 64).runAcc = 0 ∧ ¬ holding.st = .reading := by
  decide +kernel

/-- For UnusedStatesAreStuck: the three codes, an instruction that does nothing in them, and one that leaves them. -/
theorem test_witness_UnusedStatesAreStuck :
    (inState .unused5).st = .unused5 ∧ (inState .unused6).st = .unused6 ∧ (inState .unused7).st = .unused7 ∧
    Instr.bit true ≠ .start ∧ Instr.bit true ≠ .reset ∧ Instr.start ≠ .bit true := by decide +kernel

/-- For InstructionsLeaveTheHostAlone: one that clears the delivered runs, one that delivers, one that does neither. -/
theorem test_witness_InstructionsLeaveTheHostAlone :
    exec .start oneDelivered = .next (freshLine oneDelivered) ∧
    exec .accept holding = .next (acceptRun holding) ∧ (acceptRun holding).delivered = [⟨.white, 2⟩] ∧
    exec .idle holding = .next holding := ⟨rfl, rfl, by decide +kernel, rfl⟩

/-- For HeldRunWrittenOnlyByACompletedRun and ColorFlipsOnlyAtACompletedRun: `W.T2` writes the held run and flips the
color. -/
theorem test_witness_completed_run :
    exec .wT2 State.reset = .next (readCodeword ⟨.white, 4, 7⟩ (terminatingAction 2) State.reset) ∧
    Instr.wT2 ≠ .start ∧ Instr.wT2 ≠ .reset ∧
    (readCodeword ⟨.white, 4, 7⟩ (terminatingAction 2) State.reset).outLen ≠ State.reset.outLen ∧
    (readCodeword ⟨.white, 4, 7⟩ (terminatingAction 2) State.reset).color ≠ State.reset.color ∧
    State.reset.st = .reading ∧ (readCodeword ⟨.white, 4, 7⟩ (terminatingAction 2) State.reset).st = .runComplete :=
  ⟨rfl, by decide +kernel⟩

/-- For ErrorCodeWrittenOnlyOnErrorEntry: `End` within a codeword. -/
theorem test_witness_ErrorCodeWrittenOnlyOnErrorEntry :
    exec .endData (within .white 1 0 0) = .next (endOfSource (within .white 1 0 0)) ∧
    Instr.endData ≠ .start ∧ Instr.endData ≠ .reset ∧
    (endOfSource (within .white 1 0 0)).errCode ≠ (within .white 1 0 0).errCode ∧
    (within .white 1 0 0).st = .reading ∧ (endOfSource (within .white 1 0 0)).st = .error :=
  ⟨rfl, by decide +kernel⟩

/-- For StepKeepsTheInvariants: a decoder within a codeword and within a run, one with a run held, one in error, and its
step; and a well-formed table with its step. -/
theorem test_witness_StepKeepsTheInvariants :
    (within .white 12 0 64).Inv ∧ holding.Inv ∧ overflowed.Inv ∧ step overflowed = .next overflowed ∧
    t4mh.wellFormed = true ∧ overflowed.InvOver t4mh ∧ stepOver t4mh overflowed = .next overflowed :=
  ⟨by decide +kernel, by decide +kernel, by decide +kernel, rfl, by decide +kernel, by decide +kernel, rfl⟩

/-- For StepKeepsAlternation: one with a run held, one with a run accepted; and its step, that over a table with no
entry too. -/
theorem test_witness_StepKeepsAlternation :
    holding.Alternates ∧ oneDelivered.Alternates ∧ step oneDelivered = .next oneDelivered ∧
    stepOver ⟨[], []⟩ oneDelivered = .next oneDelivered :=
  ⟨by decide +kernel, by decide +kernel, rfl, rfl⟩

/-- For StepRunsTheCycleInstruction: a cycle of another operation, a bit that completes a codeword, a bit that does not. -/
theorem test_witness_StepRunsTheCycleInstruction :
    State.reset.cycleOp ≠ .bit ∧
    (withHost offerBit [true] (within .white 3 0b011 0)).cycleOp = .bit ∧
    completedCodeword (withHost offerBit [true] (within .white 3 0b011 0))
      (withHost offerBit [true] (within .white 3 0b011 0)).ports.bitIn = some .wT2 ∧
    (withHost offerBit [true] State.reset).cycleOp = .bit ∧
    completedCodeword (withHost offerBit [true] State.reset) (withHost offerBit [true] State.reset).ports.bitIn = none := by
  decide +kernel

/-- For LastBitRunsTheCodeword (and EveryBitCycleIsTheBitOperation): `W.T2` at its last bit. -/
theorem test_witness_LastBitRunsTheCodeword :
    Instr.codeword .wT2 = some ⟨.white, 4, 7⟩ ∧
    (withHost offerBit [true] (within .white 3 0b011 0)).awaits ⟨.white, 4, 7⟩ = true ∧
    (withHost offerBit [true] (within .white 3 0b011 0)).bitsLeft ⟨.white, 4, 7⟩ = 1 ∧
    (withHost offerBit [true] (within .white 3 0b011 0)).cycleOp = .bit ∧
    (withHost offerBit [true] (within .white 3 0b011 0)).ports.bitIn = (7#13).getLsbD 0 := by decide +kernel

/-- For BitsLeaveTheSourceOnlyWhenConsumed: a cycle of `Bit`, and a cycle of another operation; each step answers a next
state. -/
theorem test_witness_BitsLeaveTheSourceOnlyWhenConsumed :
    (∃ t, step (withHost offerBit [true] State.reset) = .next t) ∧
    (withHost offerBit [true] State.reset).cycleOp = .bit ∧
    (∃ t, step (withHost { HostMove.quiet with start := true, newSource := some [] } [true] State.reset) = .next t) ∧
    (withHost { HostMove.quiet with start := true, newSource := some [] } [true] State.reset).cycleOp ≠ .bit :=
  ⟨⟨_, rfl⟩, by rfl, ⟨_, rfl⟩, by decide +kernel⟩

/-- For PlacedWordIsTheNextInstruction: a white codeword at reset, a black one in a black state, a host operation. -/
theorem test_witness_PlacedWordIsTheNextInstruction :
    (Instr.codeword .wT2).all (fun cw => cw.color == State.reset.color) = true ∧
    (Instr.codeword .bM512).all (fun cw => cw.color == (within .black 0 0 0).color) = true ∧
    Instr.codeword .accept = none := by decide +kernel

/-- For CodewordConsumesExactlyItsBits: the host offers the four bits of `W.T2`, a bit follows, the host is quiet then. -/
theorem test_witness_CodewordConsumesExactlyItsBits :
    Instr.codeword .wT2 = some ⟨.white, 4, 7⟩ ∧ State.reset.Fresh ∧ State.reset.color = .white ∧
    [false, true, true, true, true] = Codeword.bits ⟨.white, 4, 7⟩ ++ [true] ∧
    offers 4 ++ [HostMove.quiet] = [offerBit, offerBit, offerBit, offerBit, HostMove.quiet] := by decide +kernel

/-- For MakeupChainEmitsTheSum: no makeup code; and two makeup codes and a terminating code of black. -/
theorem test_witness_MakeupChainEmitsTheSum :
    (termTable .white).contains (row .wT2 .white 4 0b0111 2) = true ∧ State.reset.Fresh ∧
    State.reset.color = .white ∧ State.reset.runAcc = 0 ∧
    ([row .bX2560 .black 12 0b000000011111 2560, row .bM64 .black 10 0b0000001111 64].all
      ((makeupTable .black).contains ·)) = true ∧
    (termTable .black).contains (row .bT63 .black 12 0b000001100111 63) = true ∧
    (within .black 0 0 0).Fresh ∧ (within .black 0 0 0).color = .black ∧ (within .black 0 0 0).runAcc = 0 ∧
    2560 + 64 + 63 < 2 ^ 32 := by decide +kernel

/-- For RunExpansionEmitsTheRun and LineExpansionDeliversItsRuns: the shortest and the longest run; and, for a line without
its `Start`, a fresh white decoder with two runs delivered. -/
theorem test_witness_expansions :
    State.reset.Fresh ∧ State.reset.color = .white ∧ State.reset.runAcc = 0 ∧
    ([0, 2 ^ 32 - 1].all fun n => decide (n < 2 ^ 32)) = true ∧
    State.Fresh { State.reset with delivered := [⟨.white, 2⟩, ⟨.black, 3⟩] } ∧
    State.errCode { State.reset with delivered := [⟨.white, 2⟩, ⟨.black, 3⟩] } = .none := by decide +kernel

/-- For DeadPrefixFailsAfterLmaxBits: the shortest dead string in black with five bits behind it, the longest in white. -/
theorem test_witness_DeadPrefixFailsAfterLmaxBits :
    (within .black 0 0 0).Fresh ∧ State.reset.Fresh ∧
    deadPrefixes.contains [false, false, false, false, false, false, false, false, true] = true ∧
    ([false, false, false, false, false, false, false, false, true] ++ [true, false, true, true, true]).length
      = lmax t4mh .black + 1 ∧
    deadPrefixes.contains (List.replicate 12 false) = true ∧
    (List.replicate 12 false ++ [true]).length = lmax t4mh .white + 1 := by decide +kernel

/-- For CodewordAttemptIsBounded: from the first bit in black, and from the last in white. -/
theorem test_witness_CodewordAttemptIsBounded :
    (within .black 0 0 0).Inv ∧ (within .black 0 0 0).st = .reading ∧
    (within .black 0 0 0).codeLen.toNat + (List.replicate 14 true).length = lmax t4mh .black + 1 ∧
    (within .white 12 0 0).Inv ∧ (within .white 12 0 0).st = .reading ∧
    (within .white 12 0 0).codeLen.toNat + [true].length = lmax t4mh .white + 1 := by decide +kernel

/-- For InstancesDoNotInterfere: two instances after their resets, each with its own step. -/
theorem test_witness_InstancesDoNotInterfere :
    stepInstance 0 (resetInstances 2) = .next (resetInstances 2) ∧
    stepInstance 1 (resetInstances 2) = .next (resetInstances 2) ∧ (0 : Nat) ≠ 1 := ⟨rfl, rfl, by decide⟩

/-- For HostKeepsItsDuties: `bit_end` raised with no bit left, raised beside an offered bit, and kept; a cycle after which it
stays; an offered bit that is not consumed. Each step answers a next state. -/
theorem test_witness_HostKeepsItsDuties :
    (∀ s, ∃ t, stepOver t4mh s = .next t) ∧
    (withHost { HostMove.quiet with bitEnd := true } [] holding).ports.bitEnd = true ∧
    (withHost { offerBit with bitEnd := true } [true] holding).ports.bitEnd = true ∧
    State.ports { holding with endHeld := true } = { rst := false, start := false, bitValid := false, bitEnd := true,
                                                     runReady := false, bitIn := false } ∧
    step { holding with endHeld := true } = .next { holding with endHeld := true } ∧
    State.cycleOp { holding with endHeld := true } ≠ .start ∧ State.cycleOp { holding with endHeld := true } ≠ .reset ∧
    (State.outputs { holding with endHeld := true }).done = false ∧
    (withHost offerBit [true] holding).ports.bitValid = true ∧ (withHost offerBit [true] holding).cycleOp ≠ .bit ∧
    (∃ t, step (withHost offerBit [true] holding) = .next t) :=
  ⟨fun _ => ⟨_, rfl⟩, by decide +kernel, by decide +kernel, by decide +kernel, rfl, by decide +kernel, by decide +kernel,
    by decide +kernel, by decide +kernel, by decide +kernel, ⟨_, rfl⟩⟩

end Sys2Proof.Tests
end

section
/-! SUPPORT. Well-formed tables (R65): what the check says of a hit, and that `T4_MH` passes it. -/

namespace Sys2Proof.Machine

/-- R65 (c) for every entry of a table that passes the check. -/
theorem inRange_of_wellFormed {tab : LutTable} (h : tab.wellFormed = true) {c : Color} {e : LutEntry}
    (he : e ∈ tab.entries c) : e.inRange = true := by
  simp only [LutTable.wellFormed, LutTable.bankWellFormed, Bool.and_eq_true] at h
  obtain ⟨⟨⟨⟨-, hwhite⟩, -⟩, ⟨⟨-, hblack⟩, -⟩⟩, -⟩ := h
  cases c with
  | white => exact List.all_eq_true.1 hwhite e he
  | black => exact List.all_eq_true.1 hblack e he

/-- `LMAX` of a well-formed table is at most 13, the longest codeword that R65 (c) admits. -/
theorem lmax_le_of_wellFormed {tab : LutTable} (h : tab.wellFormed = true) (c : Color) : lmax tab c ≤ 13 := by
  refine lmax_le_of_entries fun e he => ?_
  have hr := inRange_of_wellFormed h he
  simp only [LutEntry.inRange, Bool.and_eq_true, decide_eq_true_eq] at hr
  obtain ⟨⟨⟨-, hlen⟩, -⟩, -⟩ := hr
  exact hlen

/-- A makeup hit over a well-formed table is worth a multiple of 64 (R65 (c)). -/
theorem makeup_hit_mod {tab : LutTable} (h : tab.wellFormed = true) {c : Color} {len : Nat} {p : CodeAcc}
    {e : LutEntry} (hr : lutRead tab c len p = some e) (hk : e.kind = .makeup) : runLengthOf e % 64 = 0 := by
  have he := inRange_of_wellFormed h (entry_of_hit hr).1
  simp only [LutEntry.inRange, hk, Bool.and_eq_true, beq_iff_eq] at he
  obtain ⟨-, ⟨hmod, -⟩, -⟩ := he
  exact hmod

theorem t4mh_wellFormed : t4mh.wellFormed = true := by decide +kernel

end Sys2Proof.Machine
end

section
/-! SUPPORT. The step of this hardware and the step over its table `T4_MH` (R29, R82): a `Bit` cycle that completes a
codeword runs its instruction, which is the `Bit` event there. -/

namespace Sys2Proof.Machine

/-- In a cycle that is no `Bit` the instruction is that of the operation (R105). -/
theorem cycleInstr_of_not_bit {s : State} (h : s.cycleOp ≠ .bit) : s.cycleInstr = s.cycleOp.instr s.ports.bitIn := by
  unfold State.cycleInstr
  split
  · exact absurd ‹_› h
  · rfl

/-- In a `Bit` cycle it is the codeword that the bit completes, else `Bit` (R82). -/
theorem cycleInstr_of_bit {s : State} (h : s.cycleOp = .bit) :
    s.cycleInstr = (completedCodeword s s.ports.bitIn).getD (.bit s.ports.bitIn) := by
  rw [State.cycleInstr, h]

/-- The instruction of a host operation is the operation over `T4_MH`. -/
theorem exec_portOp (op : PortOp) (b : Bool) (s : State) : exec (op.instr b) s = .next (operate t4mh op b s) := by
  cases op <;> rfl

/-- A decoder that reads awaits the codeword that a bit completes, and the bit is its last (R85). -/
theorem awaits_of_completedCodeword {s : State} {b : Bool} {i : Instr} (hst : s.st = .reading)
    (h : completedCodeword s b = some i) :
    ∃ cw, i.codeword = some cw ∧ s.awaits cw = true ∧ nextLen s = cw.len ∧ codeBit cw s.codeLen.toNat = b := by
  obtain ⟨cw, hcw, hcolor, hlen, hpat⟩ := codeAt_some h
  have hl13 : cw.len ≤ 13 := (codeword_facts hcw).2.1.trans (lmax_le _)
  simp only [nextLen] at hlen
  have hbits : cw.pattern.toNat = (2 * s.codeAcc.toNat + b.toNat) % 2 ^ (s.codeLen.toNat + 1) := by
    rw [hpat, nextLen, shiftIn_toNat, Nat.mod_mod_of_dvd _ (Nat.pow_dvd_pow 2 (by omega))]
  have hb : b.toNat < 2 := b.toNat_lt
  rw [Nat.pow_succ'] at hbits
  have hhead : cw.pattern.toNat / 2 = s.codeAcc.toNat % 2 ^ s.codeLen.toNat := by
    rw [hbits, Nat.mod_mul_right_div_self]; congr 1; omega
  have hlast : cw.pattern.toNat % 2 = b.toNat := by
    rw [hbits, Nat.mod_mul_right_mod]; omega
  refine ⟨cw, hcw, (awaits_iff s cw).2 ⟨hst, hcolor.symm, by omega, ?_⟩, hlen.symm, ?_⟩
  · rw [show cw.len - s.codeLen.toNat = 1 by omega, Nat.pow_one, hhead]
  · rw [codeBit, show cw.len - 1 - s.codeLen.toNat = 0 by omega, Nat.testBit_zero, hlast]
    cases b <;> rfl

/-- The instruction of the codeword that a bit completes is the `Bit` event (R82, R85). -/
theorem exec_completedCodeword {s : State} {b : Bool} {i : Instr} (hst : s.st = .reading)
    (h : completedCodeword s b = some i) : exec i s = .next (bitEvent b s) := by
  obtain ⟨cw, hcw, ha, hn, rfl⟩ := awaits_of_completedCodeword hst h
  exact bitEvent_last_bit hcw ha hn

/-- The host's side of a cycle does not change what a bit completes. -/
theorem advanceHost_completedCodeword (s : State) (b : Bool) :
    completedCodeword s.advanceHost b = completedCodeword s b := rfl

/-- A `Bit` cycle is the `Bit` event, whether or not it completes a codeword (R80, R82). -/
theorem step_of_bit {s : State} (h : s.cycleOp = .bit) : step s = .next (bitEvent s.ports.bitIn s.advanceHost) := by
  rw [step, cycleInstr_of_bit h]
  cases hc : completedCodeword s s.ports.bitIn with
  | none => exact exec_portOp .bit _ _
  | some i =>
    have hst : s.advanceHost.st = .reading := (reading_of_cycleOp_bit h).1
    exact exec_completedCodeword hst (advanceHost_completedCodeword s _ ▸ hc)

/-- The step of this hardware is the step over its table, in every state (R29). -/
theorem step_eq_stepOver (s : State) : step s = stepOver t4mh s := by
  by_cases h : s.cycleOp = .bit
  · rw [step_of_bit h, stepOver, cycleOver, h]; rfl
  · rw [step, cycleInstr_of_not_bit h, exec_portOp]; rfl

end Sys2Proof.Machine
end

section
/-! SUPPORT. The invariants of R27: what each operation over a well-formed table keeps. -/

namespace Sys2Proof.Machine

/-- What R27 says in `READING`. -/
theorem invOver_iff_of_reading {tab : LutTable} {s : State} (hst : s.st = .reading) :
    s.InvOver tab ↔ s.CodeFits ∧ s.codeLen.toNat ≤ lmax tab s.color ∧ s.SumOfMakeups ∧ s.errCode = .none := by
  simp [State.InvOver, State.LengthBounded, State.RunHeld, State.ErrorCoded, State.StateNamed, hst, stCode]

/-- What R27 says in `RUN_COMPLETE`. -/
theorem invOver_iff_of_runComplete {tab : LutTable} {s : State} (hst : s.st = .runComplete) :
    s.InvOver tab ↔ s.CodeFits ∧ s.codeLen = 0 ∧ s.runAcc = 0 ∧ s.color = otherColor s.outColor ∧
      s.errCode = .none := by
  constructor
  · rintro ⟨hfits, ⟨-, hlen⟩, -, hheld, herr, -⟩
    obtain ⟨hrun, hcolor⟩ := hheld hst
    have hnone : s.errCode = .none := not_not.1 fun h => by simpa [hst] using herr.1 h
    exact ⟨hfits, hlen (by simp [hst]) (by simp [hst]), hrun, hcolor, hnone⟩
  · rintro ⟨hfits, hlen, hrun, hcolor, hnone⟩
    exact ⟨hfits, by simp [State.LengthBounded, hlen], by simp [State.SumOfMakeups, hrun], fun _ => ⟨hrun, hcolor⟩,
      by simp [State.ErrorCoded, hst, hnone], by simp [State.StateNamed, hst, stCode]⟩

/-- What R27 says in `END_OF_LINE` and `END_OF_DATA`. -/
theorem invOver_iff_of_lineOver {tab : LutTable} {s : State} (hst : s.st = .endOfLine ∨ s.st = .endOfData) :
    s.InvOver tab ↔ s.CodeFits ∧ s.codeLen = 0 ∧ s.SumOfMakeups ∧ s.errCode = .none := by
  rcases hst with hst | hst <;>
    simp +contextual [State.InvOver, State.LengthBounded, State.RunHeld, State.ErrorCoded, State.StateNamed, hst,
      stCode]

/-- What R27 says in `ERROR`. -/
theorem invOver_iff_of_error {tab : LutTable} {s : State} (hst : s.st = .error) :
    s.InvOver tab ↔ s.CodeFits ∧ s.SumOfMakeups ∧ s.errCode ≠ .none := by
  simp [State.InvOver, State.LengthBounded, State.RunHeld, State.ErrorCoded, State.StateNamed, hst, stCode]

/-- The invariants read registers alone, and the host's side of a cycle touches none. -/
theorem advanceHost_inv (tab : LutTable) (s : State) : s.advanceHost.InvOver tab ↔ s.InvOver tab := Iff.rfl

/-- The bits with one more shifted in fit in one bit more (R81). -/
theorem shiftIn_lt {s : State} (h : s.CodeFits) (b : Bool) : (shiftIn s.codeAcc b).toNat < 2 ^ nextLen s := by
  have hb : b.toNat < 2 := b.toNat_lt
  calc (shiftIn s.codeAcc b).toNat ≤ 2 * s.codeAcc.toNat + b.toNat := by
        rw [shiftIn_toNat]; exact Nat.mod_le _ _
    _ < 2 ^ nextLen s := by rw [nextLen, Nat.pow_succ]; omega

/-- A length below 16 is stored as it is (R24). -/
theorem storedLen_toNat {len : Nat} (hlen : len < 16) (acc : CodeAcc) : (storedLen len acc).toNat = len := by
  rw [storedLen_of_lt hlen, BitVec.toNat_ofNat, Nat.mod_eq_of_lt (by omega)]

/-- A stored codeword keeps R27 (a): its bits fit in its length. -/
theorem shiftIn_lt_storedLen {s : State} (h : s.CodeFits) (hlen : nextLen s < 16) (b : Bool) :
    (shiftIn s.codeAcc b).toNat < 2 ^ (storedLen (nextLen s) (shiftIn s.codeAcc b)).toNat := by
  rw [storedLen_toNat hlen]; exact shiftIn_lt h b

/-- The action of an entry keeps the invariants, where a makeup entry is worth a multiple of 64 and the codeword held on
an overflow fits in its length (R90 to R92, R124). -/
theorem ActionCase.keeps_inv {tab : LutTable} {e : LutEntry} {acc : CodeAcc} {len : Nat} {s t : State}
    (h : ActionCase e acc len s t) (hst : s.st = .reading) (hmod : e.kind = .makeup → runLengthOf e % 64 = 0)
    (hacc : acc.toNat < 2 ^ (storedLen len acc).toNat) (hs : s.InvOver tab) : t.InvOver tab := by
  obtain ⟨-, -, hsum, hnone⟩ := (invOver_iff_of_reading hst).1 hs
  cases h with
  | run hk hf ht =>
    subst ht
    exact (invOver_iff_of_runComplete rfl).2 ⟨Nat.two_pow_pos _, rfl, rfl, rfl, hnone⟩
  | extend hk hf ht =>
    have hexact : (BitVec.ofNat Config.runW (s.runAcc.toNat + runLengthOf e)).toNat % 64 = 0 := by
      rw [BitVec.toNat_ofNat, Nat.mod_eq_of_lt hf, Nat.add_mod, hsum, hmod hk]
    subst ht
    refine (invOver_iff_of_reading ?_).2 ⟨Nat.two_pow_pos _, Nat.zero_le _, hexact, hnone⟩
    exact hst
  | lineEnd hk ht =>
    subst ht
    exact (invOver_iff_of_lineOver (.inl rfl)).2 ⟨Nat.two_pow_pos _, rfl, hsum, hnone⟩
  | overflow hk ho ht =>
    subst ht
    exact (invOver_iff_of_error rfl).2 ⟨hacc, hsum, by simp⟩

/-- A `Bit` event over a well-formed table keeps the invariants (R80 to R84). -/
theorem bitEventOver_keeps_inv {tab : LutTable} (hwf : tab.wellFormed = true) {s : State} (hs : s.InvOver tab)
    (b : Bool) : (bitEventOver tab b s).InvOver tab := by
  by_cases hst : s.st = .reading
  swap
  · rwa [bitEventOver_not_reading hst]
  obtain ⟨hfits, hlen, hsum, hnone⟩ := (invOver_iff_of_reading hst).1 hs
  have hshort : nextLen s < 16 := by
    have := lmax_le_of_wellFormed hwf s.color
    rw [nextLen]; omega
  have hheld := shiftIn_lt_storedLen hfits hshort b
  cases bitEventOver_cases tab b s with
  | notConsumed hne ht => exact absurd hst hne
  | hit _ e hr ht => exact ht.keeps_inv hst (makeup_hit_mod hwf hr) hheld hs
  | continues _ hr hl ht =>
    rw [ht]
    refine (invOver_iff_of_reading ?_).2 ⟨hheld, (storedLen_toNat hshort _).trans_le hl, hsum, hnone⟩
    exact hst
  | overlong _ hr hl ht =>
    rw [ht]
    exact (invOver_iff_of_error rfl).2 ⟨hheld, hsum, by simp⟩

/-- R32's values meet the invariants over every table. -/
theorem freshLine_inv (tab : LutTable) (s : State) : (freshLine s).InvOver tab :=
  (invOver_iff_of_reading rfl).2 ⟨Nat.two_pow_pos _, Nat.zero_le _, rfl, rfl⟩

/-- `End` keeps the invariants (R103, R123). -/
theorem endOfSource_keeps_inv {tab : LutTable} {s : State} (hs : s.InvOver tab) : (endOfSource s).InvOver tab := by
  unfold endOfSource
  split
  next hst =>
    obtain ⟨hfits, -, hsum, hnone⟩ := (invOver_iff_of_reading hst).1 hs
    split
    next hclean => exact (invOver_iff_of_lineOver (.inr rfl)).2 ⟨hfits, hclean.1, hsum, hnone⟩
    next => exact (invOver_iff_of_error rfl).2 ⟨hfits, hsum, by simp⟩
  next => exact hs

/-- `Accept` keeps the invariants (R102). -/
theorem acceptRun_keeps_inv {tab : LutTable} {s : State} (hs : s.InvOver tab) : (acceptRun s).InvOver tab := by
  unfold acceptRun
  split
  next hst =>
    obtain ⟨hfits, hlen, hrun, -, hnone⟩ := (invOver_iff_of_runComplete hst).1 hs
    exact (invOver_iff_of_reading rfl).2 ⟨hfits, by simp [hlen], by simp [State.SumOfMakeups, hrun], hnone⟩
  next => exact hs

/-- Every host operation over a well-formed table keeps the invariants. -/
theorem operate_keeps_inv {tab : LutTable} (hwf : tab.wellFormed = true) (op : PortOp) (b : Bool) {s : State}
    (hs : s.InvOver tab) : (operate tab op b s).InvOver tab := by
  cases op with
  | reset => exact freshLine_inv tab s
  | start => exact freshLine_inv tab s
  | bit => exact bitEventOver_keeps_inv hwf hs b
  | endData => exact endOfSource_keeps_inv hs
  | accept => exact acceptRun_keeps_inv hs
  | idle => exact hs

/-- One cycle over a well-formed table keeps the invariants (R27). -/
theorem stepOver_keeps_inv {tab : LutTable} (hwf : tab.wellFormed = true) {s t : State} (hs : s.InvOver tab)
    (h : stepOver tab s = .next t) : t.InvOver tab := by
  cases h
  exact operate_keeps_inv hwf _ _ ((advanceHost_inv tab s).2 hs)

end Sys2Proof.Machine
end

section
/-! SUPPORT. The statements of the scope: the invariants of R27, the step over its table, the cycle's instruction, the
outputs. -/

namespace Sys2Proof.Machine

/-- Settles O44: over any well-formed table every operation keeps R27, and the step of this hardware is the step over
`T4_MH`, which is well formed. -/
theorem stepKeepsTheInvariants : Obligations.StepKeepsTheInvariants :=
  ⟨fun s _ hs h => stepOver_keeps_inv t4mh_wellFormed hs (step_eq_stepOver s ▸ h),
    fun _ _ _ hwf hs h => stepOver_keeps_inv hwf hs h⟩

/-- Settles O59: the codeword that a bit completes is awaited at its last bit, where its instruction is the `Bit`
event. -/
theorem stepIsTheStepOverItsTable : Obligations.StepIsTheStepOverItsTable := step_eq_stepOver

/-- Settles O46, by the instruction of the cycle in each of the three cases. -/
theorem stepRunsTheCycleInstruction : Obligations.StepRunsTheCycleInstruction := by
  refine fun s => ⟨fun h => ?_, fun i h hc => ?_, fun h hc => ?_⟩
  · rw [step, cycleInstr_of_not_bit h]
  · rw [step, cycleInstr_of_bit h, hc, Option.getD_some]
  · rw [step, cycleInstr_of_bit h, hc, Option.getD_none]

/-- Settles O37: R28's table field by field, with `LMAX` of the two banks. -/
theorem outputsFollowTheRegisters : Obligations.OutputsFollowTheRegisters := by
  intro s
  refine ⟨beq_iff_eq, beq_iff_eq, beq_iff_eq, beq_iff_eq, beq_iff_eq, ?done, ?runColor, rfl, ?errCode, ?dbgState,
    ?dbgColor, rfl, rfl, rfl, ?lmaxW, ?lmaxB⟩
  case done => simp [State.outputs, isTerminal, or_assoc]
  case runColor => show colorBit s.outColor = _; cases s.outColor <;> rfl
  case errCode => show errCodeBits s.errCode = _; cases s.errCode <;> rfl
  case dbgState => show stCode s.st = _; cases s.st <;> rfl
  case dbgColor => show colorBit s.color = _; cases s.color <;> rfl
  case lmaxW => rw [State.outputs, lmax_white]; rfl
  case lmaxB => rw [State.outputs, lmax_black]; rfl

end Sys2Proof.Machine
end

section
/-! SUPPORT. What reading can do to the registers, in one inversion: over any table and any bits the decoder stands
still, goes on, completes a run, ends or fails. Every instruction but `Start`, `Reset` and `Accept` does one of these. -/

namespace Sys2Proof.Machine

/-- What reading can do, told by `st`: `Bit`, `End` and every codeword do one of these, over any table, and so do such
operations one after another (R80 to R84, R90 to R92, R103, R121). -/
inductive ReadCase (s t : State) : Prop where
  | same (ht : t = s)
  | goesOn (hs : s.st = .reading) (sum : RunLen) (acc : CodeAcc) (len : CodeLen)
      (ht : t = { s with runAcc := sum, codeAcc := acc, codeLen := len })
  | run (hs : s.st = .reading) (n : RunLen)
      (ht : t = { s with outColor := s.color, outLen := n, color := otherColor s.color, runAcc := 0, codeAcc := 0,
                         codeLen := 0, st := .runComplete })
  | ends (hs : s.st = .reading) (last : St) (hlast : last = .endOfLine ∨ last = .endOfData) (sum : RunLen)
      (acc : CodeAcc) (len : CodeLen) (ht : t = { s with runAcc := sum, codeAcc := acc, codeLen := len, st := last })
  | fails (hs : s.st = .reading) (e : ErrCode) (he : e ≠ .none) (sum : RunLen) (acc : CodeAcc) (len : CodeLen)
      (ht : t = { s with runAcc := sum, codeAcc := acc, codeLen := len, st := .error, errCode := e })

/-- Outside `READING` reading does nothing (R80, R143, R146). -/
theorem ReadCase.eq_of_not_reading {s t : State} (h : ReadCase s t) (hs : s.st ≠ .reading) : t = s := by
  cases h with
  | same ht => exact ht
  | goesOn hr | run hr | ends hr | fails hr => exact absurd hr hs

/-- Only a decoder that goes on is still read from, so a second part of the reading decides the outcome. -/
theorem ReadCase.trans {s t u : State} (hst : ReadCase s t) (htu : ReadCase t u) : ReadCase s u := by
  cases hst with
  | same ht => exact ht ▸ htu
  | goesOn hs sum acc len ht =>
    subst ht
    cases htu with
    | same hu => exact .goesOn hs sum acc len hu
    | goesOn _ sum' acc' len' hu => exact .goesOn hs sum' acc' len' hu
    | run _ n hu => exact .run hs n hu
    | ends _ last hlast sum' acc' len' hu => exact .ends hs last hlast sum' acc' len' hu
    | fails _ e he sum' acc' len' hu => exact .fails hs e he sum' acc' len' hu
  | run hs n ht =>
    exact .run hs n ((htu.eq_of_not_reading (by simp [ht])).trans ht)
  | ends hs last hlast sum acc len ht =>
    refine .ends hs last hlast sum acc len ((htu.eq_of_not_reading ?_).trans ht)
    rcases hlast with rfl | rfl <;> simp [ht]
  | fails hs e he sum acc len ht =>
    exact .fails hs e he sum acc len ((htu.eq_of_not_reading (by simp [ht])).trans ht)

/-- The action of an entry (R90 to R92). -/
theorem ActionCase.readCase {e : LutEntry} {acc : CodeAcc} {len : Nat} {s t : State} (h : ActionCase e acc len s t)
    (hs : s.st = .reading) : ReadCase s t := by
  cases h with
  | run hk hf ht => exact .run hs _ ht
  | extend hk hf ht => exact .goesOn hs _ _ _ ht
  | lineEnd hk ht => exact .ends hs _ (.inl rfl) _ _ _ ht
  | overflow hk ho ht => exact .fails hs .runOverflow (by decide) _ _ _ ht

/-- One `Bit` event over any table (R80). -/
theorem bitEventOver_readCase (tab : LutTable) (b : Bool) (s : State) : ReadCase s (bitEventOver tab b s) := by
  cases bitEventOver_cases tab b s with
  | notConsumed hs ht => exact .same ht
  | hit hs e hr ht => exact ht.readCase hs
  | continues hs hr hl ht => exact .goesOn hs _ _ _ ht
  | overlong hs hr hl ht => exact .fails hs .invalidCodeword (by decide) _ _ _ ht

/-- Bits one after another (R50). -/
theorem deliverBits_readCase (bs : List Bool) (s : State) : ReadCase s (deliverBits bs s) :=
  deliverBits_rel (R := ReadCase) (fun _ => .same rfl) (fun _ _ _ => .trans) (bitEventOver_readCase t4mh) bs s

/-- `End` (R103). -/
theorem endOfSource_readCase (s : State) : ReadCase s (endOfSource s) := by
  unfold endOfSource
  split
  next hs =>
    split
    next => exact .ends hs .endOfData (.inr rfl) _ _ _ rfl
    next => exact .fails hs .unexpectedEndOfData (by decide) _ _ _ rfl
  next => exact .same rfl

/-- `Accept` in `RUN_COMPLETE` (R102). -/
theorem acceptRun_of_runComplete {s : State} (h : s.st = .runComplete) :
    acceptRun s = { s with st := .reading, delivered := s.delivered ++ [⟨s.outColor, s.outLen⟩] } := if_pos h

/-- `Accept` is not enabled elsewhere (R102). -/
theorem acceptRun_elsewhere {s : State} (h : s.st ≠ .runComplete) : acceptRun s = s := if_neg h

/-! `Accept` writes `st` and the runs delivered alone (R102). -/

@[simp] theorem acceptRun_color (s : State) : (acceptRun s).color = s.color := by
  unfold acceptRun; split <;> rfl
@[simp] theorem acceptRun_outColor (s : State) : (acceptRun s).outColor = s.outColor := by
  unfold acceptRun; split <;> rfl
@[simp] theorem acceptRun_outLen (s : State) : (acceptRun s).outLen = s.outLen := by
  unfold acceptRun; split <;> rfl
@[simp] theorem acceptRun_errCode (s : State) : (acceptRun s).errCode = s.errCode := by
  unfold acceptRun; split <;> rfl

/-- What one instruction does, told by what it is for: to begin a line, to take a run, or to read. -/
inductive InstrCase (i : Instr) (s t : State) : Prop where
  | fresh (hi : i = .start ∨ i = .reset) (ht : t = freshLine s)
  | accept (hi : i = .accept) (ht : t = acceptRun s)
  | reads (hi : i ≠ .start ∧ i ≠ .reset ∧ i ≠ .accept) (ht : ReadCase s t)

/-- A codeword is none of the operations that begin a line or take a run. -/
theorem reads_of_codeword {i : Instr} {cw : Codeword} (h : i.codeword = some cw) :
    i ≠ .start ∧ i ≠ .reset ∧ i ≠ .accept := by
  refine ⟨?_, ?_, ?_⟩ <;> rintro rfl <;> cases h

theorem exec_instrCase {i : Instr} {s t : State} (h : exec i s = .next t) : InstrCase i s t := by
  cases exec_cases h with
  | fresh hi ht => exact .fresh hi ht
  | accept hi ht => exact .accept hi ht
  | bit b hi ht => exact .reads (by simp [hi]) (ht ▸ bitEventOver_readCase t4mh b s)
  | endData hi ht => exact .reads (by simp [hi]) (ht ▸ endOfSource_readCase s)
  | idle hi ht => exact .reads (by simp [hi]) (.same ht)
  | awaited cw hcw ha ht => exact .reads (reads_of_codeword hcw) (ht.readCase ((awaits_iff s cw).1 ha).1)
  | unawaited cw hcw ha ht => exact .reads (reads_of_codeword hcw) (ht ▸ deliverBits_readCase cw.bits s)

/-- An instruction other than `Start` and `Reset` takes a run or reads. -/
theorem exec_accept_or_reads {i : Instr} {s t : State} (h : exec i s = .next t) (hstart : i ≠ .start)
    (hreset : i ≠ .reset) : t = acceptRun s ∨ ReadCase s t := by
  cases exec_instrCase h with
  | fresh hi ht => exact absurd hi (by simp [hstart, hreset])
  | accept hi ht => exact .inl ht
  | reads hi ht => exact .inr ht

/-- Every instruction answers a next state (R149). -/
theorem exec_answers (i : Instr) (s : State) : ∃ t, exec i s = .next t := by
  cases hc : i.codeword with
  | some cw => exact ⟨_, exec_codeword hc s⟩
  | none =>
    obtain rfl | rfl | ⟨b, rfl⟩ | rfl | rfl | rfl := hostOp_of_no_codeword hc <;> exact ⟨_, rfl⟩

/-- Outside `READING` nothing but `Start`, `Reset` and an enabled `Accept` acts (R100). -/
theorem exec_outside_reading {i : Instr} {s : State} (hs : s.st ≠ .reading) (hstart : i ≠ .start)
    (hreset : i ≠ .reset) (haccept : i = .accept → s.st ≠ .runComplete) : exec i s = .next s := by
  obtain ⟨t, h⟩ := exec_answers i s
  cases exec_instrCase h with
  | fresh hi ht => exact absurd hi (by simp [hstart, hreset])
  | accept hi ht => rw [h, ht, acceptRun_elsewhere (haccept hi)]
  | reads hi ht => rw [h, ht.eq_of_not_reading hs]

end Sys2Proof.Machine
end

section
/-! SUPPORT. The alternation of R93: what each operation over any table keeps. -/

namespace Sys2Proof.Machine

/-- One run more turns the color. -/
theorem colorAfter_succ (n : Nat) : colorAfter (n + 1) = otherColor (colorAfter n) := by
  rcases Nat.mod_two_eq_zero_or_one n with h | h <;> simp [colorAfter, Nat.add_mod, h, otherColor]

theorem colorAfter_eq_iterate (n : Nat) : colorAfter n = otherColor^[n] .white := by
  induction n with
  | zero => rfl
  | succ n ih => rw [colorAfter_succ, ih, Function.iterate_succ_apply']

/-- A further run keeps the alternation exactly when it has the next color. -/
theorem alternateFrom_concat (c : Color) (rs : List Run) (r : Run) :
    alternateFrom c (rs ++ [r]) = true ↔ alternateFrom c rs = true ∧ r.color = otherColor^[rs.length] c := by
  induction rs generalizing c with
  | nil => simp [alternateFrom]
  | cons q qs ih => simp [alternateFrom, ih, and_assoc]

/-- What R93 says while a run is held. -/
theorem alternates_iff_of_runComplete {s : State} (hs : s.st = .runComplete) :
    s.Alternates ↔ alternateFrom .white s.delivered = true ∧ s.outColor = colorAfter s.delivered.length ∧
      s.color = colorAfter (s.delivered.length + 1) := by
  simp [State.Alternates, hs]

/-- What R93 says while no run is held. -/
theorem alternates_iff_of_not_runComplete {s : State} (hs : s.st ≠ .runComplete) :
    s.Alternates ↔ alternateFrom .white s.delivered = true ∧ s.color = colorAfter s.delivered.length := by
  simp [State.Alternates, hs]

/-- The alternation reads registers and the runs delivered, and the host's side of a cycle touches neither. -/
theorem advanceHost_alternates (s : State) : s.advanceHost.Alternates ↔ s.Alternates := Iff.rfl

/-- A fresh line has delivered nothing, and its first run is white (R32). -/
theorem freshLine_alternates (s : State) : (freshLine s).Alternates :=
  (alternates_iff_of_not_runComplete (by simp)).2 ⟨rfl, rfl⟩

/-- Reading keeps the alternation: a completed run takes the color of the run to come, and the color register turns
(R90). -/
theorem ReadCase.keeps_alternates {s t : State} (h : ReadCase s t) (hs : s.Alternates) : t.Alternates := by
  by_cases hr : s.st = .reading
  swap
  · rwa [h.eq_of_not_reading hr]
  obtain ⟨hruns, hcolor⟩ := (alternates_iff_of_not_runComplete (by simp [hr])).1 hs
  cases h with
  | same ht => exact ht ▸ hs
  | goesOn _ sum acc len ht =>
    subst ht
    exact (alternates_iff_of_not_runComplete (by simp [hr])).2 ⟨hruns, hcolor⟩
  | run _ n ht =>
    subst ht
    exact (alternates_iff_of_runComplete rfl).2 ⟨hruns, hcolor, by simp [hcolor, colorAfter_succ]⟩
  | ends _ last hlast sum acc len ht =>
    subst ht
    exact (alternates_iff_of_not_runComplete (by rcases hlast with rfl | rfl <;> simp)).2 ⟨hruns, hcolor⟩
  | fails _ e he sum acc len ht =>
    subst ht
    exact (alternates_iff_of_not_runComplete (by simp)).2 ⟨hruns, hcolor⟩

/-- `Accept` delivers the held run, which has the next color (R102). -/
theorem acceptRun_keeps_alternates {s : State} (hs : s.Alternates) : (acceptRun s).Alternates := by
  by_cases hst : s.st = .runComplete
  swap
  · rwa [acceptRun_elsewhere hst]
  obtain ⟨hruns, hout, hcolor⟩ := (alternates_iff_of_runComplete hst).1 hs
  rw [acceptRun_of_runComplete hst]
  refine (alternates_iff_of_not_runComplete (by simp)).2 ⟨?_, by simpa using hcolor⟩
  exact (alternateFrom_concat _ _ _).2 ⟨hruns, hout.trans (colorAfter_eq_iterate _)⟩

/-- Every host operation over any table keeps the alternation. -/
theorem operate_keeps_alternates (tab : LutTable) (op : PortOp) (b : Bool) {s : State} (hs : s.Alternates) :
    (operate tab op b s).Alternates := by
  cases op with
  | reset => exact freshLine_alternates s
  | start => exact freshLine_alternates s
  | bit => exact (bitEventOver_readCase tab b s).keeps_alternates hs
  | endData => exact (endOfSource_readCase s).keeps_alternates hs
  | accept => exact acceptRun_keeps_alternates hs
  | idle => exact hs

/-- One cycle over any table keeps the alternation (R93). -/
theorem stepOver_keeps_alternates {tab : LutTable} {s t : State} (hs : s.Alternates) (h : stepOver tab s = .next t) :
    t.Alternates := by
  cases h
  exact operate_keeps_alternates tab _ _ ((advanceHost_alternates s).2 hs)

/-- Settles O45: over any table every operation keeps R93, and the step of this hardware is the step over `T4_MH`. -/
theorem stepKeepsAlternation : Obligations.StepKeepsAlternation :=
  ⟨fun s _ hs h => stepOver_keeps_alternates hs (step_eq_stepOver s ▸ h),
    fun _ _ _ hs h => stepOver_keeps_alternates hs h⟩

end Sys2Proof.Machine
end

section
/-! SUPPORT. The rows of the terminating codes as the statements quote them, and what their codewords do with a sum of
makeup codes (R27 (c), R66, R70, R90). -/

namespace Sys2Proof.Machine

open Claims

/-- The row's columns are its instruction's codeword, in this bank, and the kind and run length of its LUT entry. -/
def rowIsEntry (k : Kind) (c : Color) (r : Row) : Bool :=
  r.instr.codeword == some r.code && r.code.color == c && (entryOfInstr r.instr).kind == k &&
    runLengthOf (entryOfInstr r.instr) == r.run

theorem termTable_rowIsEntry (c : Color) : (termTable c).all (rowIsEntry .term c) = true := by
  cases c <;> decide +kernel

theorem termTable_row {c : Color} {r : Row} (h : r ∈ termTable c) :
    r.instr.codeword = some r.code ∧ r.code.color = c ∧ (entryOfInstr r.instr).kind = .term ∧
      runLengthOf (entryOfInstr r.instr) = r.run := by
  simpa [rowIsEntry, and_assoc] using List.all_eq_true.1 (termTable_rowIsEntry c) r h

/-- A terminating code is worth at most 63 (R65 (c)). -/
theorem termTable_run_le {c : Color} {r : Row} (h : r ∈ termTable c) : r.run ≤ 63 := by
  obtain ⟨hcode, -, hkind, hrun⟩ := termTable_row h
  obtain ⟨-, -, -, hhit, -⟩ := codeword_facts hcode
  obtain ⟨-, -, -, -, -, hterm, -⟩ := hit_range hhit
  exact hrun ▸ hterm hkind

/-- The largest multiple of 64 that `run_acc` holds leaves room for a terminating code. -/
theorem sum_fits_of_sumOfMakeups {s : State} (h : s.SumOfMakeups) {n : Nat} (hn : n ≤ 63) :
    s.runAcc.toNat + n < 2 ^ Config.runW := by
  have hlt : s.runAcc.toNat < 2 ^ 32 := s.runAcc.isLt
  have hmod : s.runAcc.toNat % 64 = 0 := h
  show s.runAcc.toNat + n < 2 ^ 32
  omega

/-- An awaited terminating codeword whose sum fits completes its run (R90). -/
theorem exec_termTable_fits {c : Color} {r : Row} (hr : r ∈ termTable c) {s : State} (ha : s.awaits r.code = true)
    (hfits : s.runAcc.toNat + r.run < 2 ^ Config.runW) :
    exec r.instr s = .next
      { s with outColor := c, outLen := BitVec.ofNat Config.runW (s.runAcc.toNat + r.run), color := otherColor c,
               runAcc := 0, codeAcc := 0, codeLen := 0, st := .runComplete } := by
  obtain ⟨hcode, hbank, hkind, hrun⟩ := termTable_row hr
  have hcolor : s.color = c := ((awaits_iff s r.code).1 ha).2.1.trans hbank
  rw [exec_awaited hcode ha, entryAction_term hkind, hrun, terminatingAction_fits hfits, hcolor]

end Sys2Proof.Machine
end

section
/-! SUPPORT. A step of one decoder of several is a change of one entry of their list (R33, R132). -/

namespace Sys2Proof.Machine

/-- Decoder `k` takes one cycle, and every other is as it was. -/
theorem stepInstance_eq_modify (k : Nat) (sys : List State) :
    stepInstance k sys = .next (sys.modify k (cycleOver t4mh)) := by
  cases hk : sys[k]? with
  | none => simp [stepInstance, hk, List.modify_eq_self (List.getElem?_eq_none_iff.1 hk)]
  | some s => simp [stepInstance, hk, step_eq_stepOver, stepOver, List.modify_eq_set_getElem?]

end Sys2Proof.Machine
end

section
/-! SUPPORT. The statements about the state: what each instruction writes and leaves, the reset values, several
decoders. -/

namespace Sys2Proof.Machine

/-- Settles O27: a sum of makeup codes leaves room for the largest terminating code. -/
theorem terminatingCodewordsNeverOverflow : Obligations.TerminatingCodewordsNeverOverflow := by
  intro c r hr s ha hsum
  have hfits := sum_fits_of_sumOfMakeups hsum (termTable_run_le hr)
  exact ⟨_, exec_termTable_fits hr ha hfits, rfl, rfl, (BitVec.toNat_ofNat _ _).trans (Nat.mod_eq_of_lt hfits)⟩

/-- Settles O36: the unused codes are neither `READING` nor `RUN_COMPLETE`, and no output names them. -/
theorem unusedStatesAreStuck : Obligations.UnusedStatesAreStuck := by
  intro s hs
  have hreading : s.st ≠ .reading := by rintro h; simp [h] at hs
  have hcomplete : s.st ≠ .runComplete := by rintro h; simp [h] at hs
  refine ⟨?outputs, fun i hstart hreset => exec_outside_reading hreading hstart hreset fun _ => hcomplete, ?leave⟩
  case outputs => rcases hs with h | h | h <;> simp [State.outputs, isTerminal, h]
  case leave => rintro i (rfl | rfl) <;> exact ⟨freshLine s, rfl, rfl⟩

/-- Settles O39: reading writes registers alone; `Accept` and a fresh line write the runs delivered. -/
theorem instructionsLeaveTheHostAlone : Obligations.InstructionsLeaveTheHostAlone := by
  intro i s t h
  cases exec_instrCase h with
  | fresh hi ht =>
    subst ht
    exact ⟨rfl, rfl, rfl, rfl, (if_pos hi).symm⟩
  | accept hi ht =>
    subst hi ht
    by_cases hst : s.st = .runComplete
    · simp [acceptRun_of_runComplete hst, hst]
    · simp [acceptRun_elsewhere hst, hst]
  | reads hi ht =>
    obtain ⟨hstart, hreset, haccept⟩ := hi
    simp only [hstart, hreset, haccept, or_self, false_and, if_false]
    cases ht with
    | same ht | goesOn _ _ _ _ ht | run _ _ ht | ends _ _ _ _ _ _ ht | fails _ _ _ _ _ _ ht =>
      subst ht
      exact ⟨rfl, rfl, rfl, rfl, rfl⟩

/-- Settles O40: of what an instruction can do, only a completed run writes the held run. -/
theorem heldRunWrittenOnlyByACompletedRun : Obligations.HeldRunWrittenOnlyByACompletedRun := by
  intro i s t h hstart hreset hne
  rcases exec_accept_or_reads h hstart hreset with rfl | hread
  · simp at hne
  cases hread with
  | run hs n ht =>
    subst ht
    exact ⟨hs, rfl, rfl⟩
  | same ht | goesOn _ _ _ _ ht | ends _ _ _ _ _ _ ht | fails _ _ _ _ _ _ ht =>
    subst ht
    simp at hne

/-- Settles O41: of what an instruction can do, only a completed run turns the color, and always. -/
theorem colorFlipsOnlyAtACompletedRun : Obligations.ColorFlipsOnlyAtACompletedRun := by
  intro i s t h hstart hreset
  rcases exec_accept_or_reads h hstart hreset with rfl | hread
  · refine ⟨fun hne => absurd (acceptRun_color s) hne, fun hs ht => ?_⟩
    simp [acceptRun_elsewhere, hs] at ht
  cases hread with
  | run hs n ht =>
    subst ht
    exact ⟨fun _ => ⟨hs, rfl, rfl⟩, fun _ _ => rfl⟩
  | same ht | goesOn _ _ _ _ ht | fails _ _ _ _ _ _ ht =>
    subst ht
    simp +contextual
  | ends hs last hlast _ _ _ ht =>
    subst ht
    rcases hlast with rfl | rfl <;> simp

/-- Settles O42: of what an instruction can do, only a failure writes the error code, and never with `NONE`. -/
theorem errorCodeWrittenOnlyOnErrorEntry : Obligations.ErrorCodeWrittenOnlyOnErrorEntry := by
  intro i s t h hstart hreset
  rcases exec_accept_or_reads h hstart hreset with rfl | hread
  · refine ⟨fun hne => absurd (acceptRun_errCode s) hne, fun hs ht => ?_⟩
    simp [acceptRun_elsewhere, hs] at ht
  cases hread with
  | fails hs e he _ _ _ ht =>
    subst ht
    exact ⟨fun _ => ⟨hs, rfl⟩, fun _ _ => he⟩
  | same ht | goesOn _ _ _ _ ht | run _ _ ht =>
    subst ht
    simp +contextual
  | ends hs last hlast _ _ _ ht =>
    subst ht
    rcases hlast with rfl | rfl <;> simp

/-- Settles O30: both are the fresh line, and the state after reset is one too. -/
theorem startAndResetLeaveTheResetValues : Obligations.StartAndResetLeaveTheResetValues :=
  fun s => ⟨freshLine s, rfl, rfl, rfl, rfl, rfl, rfl, rfl, rfl⟩

/-- Settles O43: the state after reset is a fresh line. -/
theorem resetMeetsTheInvariants : Obligations.ResetMeetsTheInvariants :=
  ⟨freshLine_inv t4mh State.reset, freshLine_alternates State.reset⟩

/-- Settles O58: each step changes its own entry of the list. -/
theorem instancesDoNotInterfere : Obligations.InstancesDoNotInterfere := by
  constructor
  · intro k j sys sys' hkj h
    rw [stepInstance_eq_modify] at h
    cases h
    exact List.getElem?_modify_ne _ _ hkj
  · intro k j sys a b c d hkj ha hb hc hd
    simp only [stepInstance_eq_modify] at ha hb hc hd
    cases ha; cases hb; cases hc; cases hd
    exact List.modify_modify_ne _ _ sys hkj

end Sys2Proof.Machine
end

section
/-! SUPPORT. The table `T4_MH` as a memory: its entries and where a lookup finds them (R43), its address map (R41). -/

namespace Sys2Proof.Machine

/-- An entry of a bank is what one of its words holds, where that is not `EMPTY` (R41, R62). -/
theorem mem_entries_iff {tab : LutTable} {c : Color} {e : LutEntry} :
    e ∈ tab.entries c ↔ (∃ w ∈ bankOf tab c, entryOf w = e) ∧ e.kind ≠ .empty := by
  simp [LutTable.entries]

/-- The length and the pattern of an entry are those of a codeword of its bank, whose entry it is (R60, R64). -/
theorem codeAt_of_mem_entries {c : Color} {e : LutEntry} (h : e ∈ t4mh.entries c) :
    ∃ i, codeAt c e.bitLength e.pattern.toNat = some i ∧ entryOfInstr i = e := by
  obtain ⟨⟨w, hw, rfl⟩, -⟩ := mem_entries_iff.1 h
  exact Option.map_eq_some_iff.1 (beq_iff_eq.1 (List.all_eq_true.1 (wordCheck_all c) w hw))

/-- Each bank holds 105 entries (R41). -/
theorem length_bankOf_t4mh (c : Color) : (bankOf t4mh c).length = 105 := by cases c <;> rfl

/-- The word at the address of a bank's index is the bank's word of this index (R41). -/
theorem romWord_romAddr (tab : LutTable) (c : Color) (index : BitVec 7) :
    romWord tab (romAddr c index) = ((bankOf tab c)[index.toNat]?).getD emptyWord := by
  have hindex : (romAddr c index).extractLsb' 0 7 = index := by
    cases c <;> exact BitVec.extractLsb'_append_eq_right
  have hbank : (romAddr c index).getLsbD 7 = decide (c = .black) := by
    cases c <;> exact BitVec.getLsbD_append
  rw [romWord, hindex, hbank]
  cases c <;> rfl

/-- An index past the last word of its bank reads the empty word (R41). -/
theorem romWord_past_bank {tab : LutTable} {c : Color} {index : BitVec 7}
    (h : (bankOf tab c).length ≤ index.toNat) : romWord tab (romAddr c index) = emptyWord := by
  rw [romWord_romAddr, List.getElem?_eq_none h, Option.getD_none]

end Sys2Proof.Machine
end

section
/-! SUPPORT. What an awaiting decoder holds: a first part of the codeword's bits (R47, R85). -/

namespace Sys2Proof.Machine

/-- The bits of a pattern are those of its leading part, then those of the rest (R47). -/
theorem bitsOf_add (m n p : Nat) : bitsOf (m + n) p = bitsOf m (p / 2 ^ n) ++ bitsOf n p := by
  induction m with
  | zero => rw [Nat.zero_add, bitsOf, List.nil_append]
  | succ m ih => rw [Nat.succ_add, bitsOf, ih, bitsOf, Nat.testBit_div_two_pow, List.cons_append]

/-- A decoder that holds no bit awaits every codeword whose bits fit in its length (R60, R85). -/
theorem awaits_of_fresh {s : State} {cw : Codeword} (hs : s.Fresh) (hc : s.color = cw.color) (hl : 0 < cw.len)
    (hp : cw.pattern.toNat < 2 ^ cw.len) : s.awaits cw = true := by
  obtain ⟨hst, hlen⟩ := hs
  simp [awaits_iff, hst, hlen, hc, hl, Nat.mod_one, Nat.div_eq_of_lt hp]

/-- The bits held, then the bits left, are the bits of an awaited codeword. -/
theorem held_append_left_of_awaits {s : State} {cw : Codeword} (ha : s.awaits cw = true) (hf : s.CodeFits) :
    bitsOf s.codeLen.toNat s.codeAcc.toNat ++ bitsOf (s.bitsLeft cw) cw.pattern.toNat = cw.bits := by
  obtain ⟨-, -, hlen, hheld⟩ := (awaits_iff s cw).1 ha
  rw [Nat.mod_eq_of_lt hf] at hheld
  rw [hheld, State.bitsLeft, ← bitsOf_add, Nat.add_sub_of_le hlen.le, Codeword.bits]

end Sys2Proof.Machine
end

section
/-! SUPPORT. The statements about the table and the bits held: the lookup, `LMAX`, the address map, what a decoder
awaits. -/

namespace Sys2Proof.Machine

/-- Settles O8: a hit is an entry of the bank; and an entry is that of the codeword its length and pattern are, which the
lookup hits. -/
theorem lutReadFindsTheOneEntry : Obligations.LutReadFindsTheOneEntry := by
  refine fun c len p e => ⟨fun h => ?_, ?_⟩
  · obtain ⟨hmin, hmax, -⟩ := lutRead_some h
    obtain ⟨-, -, hlen, hpat, -⟩ := hit_range h
    exact ⟨hmin, hmax, (entry_of_hit h).1, hlen, hpat⟩
  · rintro ⟨-, -, he, rfl, hp⟩
    exact (lutRead_iff_codeAt c e.bitLength p e).2 (hp ▸ codeAt_of_mem_entries he)

/-- Settles O20: no bit held is the empty first part of every codeword; and the bits held are a first part of an awaited
one. -/
theorem freshDecoderAwaitsItsBank : Obligations.FreshDecoderAwaitsItsBank := by
  refine ⟨fun i cw s hcw hs hc => ?_, fun i cw s _ ha hf => ?_⟩
  · obtain ⟨hlen, -, hp, -⟩ := codeword_facts hcw
    exact awaits_of_fresh hs hc (by omega) hp
  · obtain ⟨hst, hcolor, -⟩ := (awaits_iff s cw).1 ha
    exact ⟨hst, hcolor, held_append_left_of_awaits ha hf⟩

/-- Settles O9, by evaluating each bank. -/
theorem longestCodewords : Obligations.LongestCodewords := ⟨lmax_white, lmax_black⟩

/-- Settles O10: each bank ends at index 104; and the EOL word is the white word of index `0x5E` and the black word of
index `0x1E`. -/
theorem romAddressMap : Obligations.RomAddressMap := by
  refine ⟨fun c index h => romWord_past_bank ?_, romWord_romAddr t4mh .white 0x5E, romWord_romAddr t4mh .black 0x1E⟩
  rwa [length_bankOf_t4mh]

end Sys2Proof.Machine
end

section
/-! SUPPORT. The decoder over a stream and over a window: a codeword at the head is found, and nothing else is (R64,
R73). -/

namespace Sys2Proof.Machine

/-- With `k + 1` bits of a codeword to come, reading on ends with the codeword: no lookup on the way hits (R73, R85). -/
theorem decodeFrom_codeword {i : Instr} {cw : Codeword} (h : i.codeword = some cw) (rest : List Bool) {k : Nat}
    (hk : k < cw.len) :
    decodeFrom cw.color (cw.len - (k + 1)) (cw.pattern.toNat / 2 ^ (k + 1))
      (bitsOf (k + 1) cw.pattern.toNat ++ rest) = .ok (i, rest) := by
  obtain ⟨-, hmax, -, -, hcode⟩ := codeword_facts h
  induction k with
  | zero =>
    rw [bitsOf, List.cons_append, decodeFrom, half_bit, Nat.sub_add_cancel hk, Nat.pow_zero, Nat.div_one, hcode]
    rfl
  | succ k ih =>
    have hmiss : codeAt cw.color (cw.len - (k + 1)) (cw.pattern.toNat / 2 ^ (k + 1)) = none := by
      have := codeAt_shorter h (n := cw.len - (k + 1)) (by omega)
      rwa [show cw.len - (cw.len - (k + 1)) = k + 1 by omega] at this
    rw [bitsOf, List.cons_append, decodeFrom, half_bit, show cw.len - (k + 1 + 1) + 1 = cw.len - (k + 1) by omega,
      hmiss]
    exact (if_neg (by omega)).trans (ih (by omega))

/-- Without its last bit a shifted accumulator is the one before the shift (R81). -/
theorem shifted_div_two (acc : Nat) (b : Bool) : (2 * acc + b.toNat) / 2 = acc := by
  have := b.toNat_lt
  omega

/-- The last bit of a shifted accumulator is the one shifted in (R81). -/
theorem shifted_testBit_zero (acc : Nat) (b : Bool) : (2 * acc + b.toNat).testBit 0 = b := by
  cases b <;> simp [Nat.testBit_zero]

/-- What reading on decodes is a codeword that the bits read before are the leading bits of, and the bits taken are the
rest of it (R73). -/
theorem codeword_of_decodeFrom {c : Color} {bits rest : List Bool} {i : Instr} {n acc : Nat}
    (h : decodeFrom c n acc bits = .ok (i, rest)) :
    ∃ cw k, i.codeword = some cw ∧ cw.color = c ∧ cw.len = n + k ∧ cw.pattern.toNat / 2 ^ k = acc ∧
      bits = bitsOf k cw.pattern.toNat ++ rest := by
  induction bits generalizing n acc with
  | nil => cases h
  | cons b bits ih =>
    have hhead := shifted_div_two acc b
    have hlast := shifted_testBit_zero acc b
    rw [decodeFrom] at h
    split at h
    next j hj =>
      cases h
      obtain ⟨cw, hcw, hcolor, hlen, hpat⟩ := codeAt_some hj
      rw [← hpat] at hhead hlast
      exact ⟨cw, 1, hcw, hcolor, hlen, by rw [Nat.pow_one, hhead], by rw [bitsOf, bitsOf, hlast]; rfl⟩
    next =>
      split at h
      · cases h
      obtain ⟨cw, k, hcw, hcolor, hlen, hpat, rfl⟩ := ih h
      rw [← hpat, Nat.div_div_eq_div_mul, ← Nat.pow_succ] at hhead
      rw [← hpat, Nat.testBit_div_two_pow, Nat.zero_add] at hlast
      exact ⟨cw, k + 1, hcw, hcolor, by omega, hhead, by rw [bitsOf, hlast, List.cons_append]⟩

/-- Of two codewords of a bank that are the leading bits of one window none is shorter (R65 (b)). -/
theorem not_shorter_of_window {i j : Instr} {a b : Codeword} (ha : i.codeword = some a) (hb : j.codeword = some b)
    (hc : a.color = b.color) {w : Nat} (hwa : w / 2 ^ (13 - a.len) = a.pattern.toNat)
    (hwb : w / 2 ^ (13 - b.len) = b.pattern.toNat) : ¬ a.len < b.len := by
  intro hlt
  have hmax : b.len ≤ 13 := (codeword_facts hb).2.1.trans (lmax_le _)
  refine codeword_not_leading ha hb hc hlt ?_
  rw [← hwa, ← hwb, Nat.div_div_eq_div_mul, ← Nat.pow_add, show 13 - b.len + (b.len - a.len) = 13 - a.len by omega]

/-- Two codewords of a bank that are the leading bits of one window are the same (R65 (a)). -/
theorem codeword_of_window_unique {i j : Instr} {a b : Codeword} (ha : i.codeword = some a)
    (hb : j.codeword = some b) (hc : a.color = b.color) {w : Nat} (hwa : w / 2 ^ (13 - a.len) = a.pattern.toNat)
    (hwb : w / 2 ^ (13 - b.len) = b.pattern.toNat) : i = j := by
  have hlen : a.len = b.len := Nat.le_antisymm (not_lt.1 (not_shorter_of_window hb ha hc.symm hwb hwa))
    (not_lt.1 (not_shorter_of_window ha hb hc hwa hwb))
  obtain ⟨-, -, -, -, hi⟩ := codeword_facts ha
  obtain ⟨-, -, -, -, hj⟩ := codeword_facts hb
  rw [← hwa, hlen, hwb, hc, hj] at hi
  exact (Option.some.inj hi).symm

/-- A window decodes by a row of its bank that matches (R64). -/
theorem row_of_decodeWindow {c : Color} {w : BitVec 13} {i : Instr} (h : decodeWindow c w = .ok i) :
    ∃ r ∈ codeRows c, (w &&& r.mask == r.mtch) = true ∧ r.instr = i := by
  unfold decodeWindow at h
  split at h
  next r hr =>
    cases h
    exact ⟨r, List.mem_of_find?_eq_some hr, by simpa using List.find?_some hr, rfl⟩
  next => cases h

/-- A window that a row of its bank matches decodes (R64). -/
theorem decodeWindow_of_row {c : Color} {w : BitVec 13} {r : CodeRow} (hr : r ∈ codeRows c)
    (h : (w &&& r.mask == r.mtch) = true) : ∃ i, decodeWindow c w = .ok i := by
  unfold decodeWindow
  split
  next q hq => exact ⟨q.instr, rfl⟩
  next hnone => exact absurd h (List.find?_eq_none.1 hnone r hr)

end Sys2Proof.Machine
end

section
/-! SUPPORT. The rows of the port table (R74): where each matches the control vector. And a table word placed for the
fetch: the next step runs it. -/

namespace Sys2Proof.Machine

/-! A row matches the control vector where its own bit is 1 and the bits of the rows above it that its mask reads are 0
(R74). -/

theorem ctl_matches_reset (p : Ports) : (p.ctl &&& 0x10 == 0x10) = p.rst := by
  cases p
  decide +revert

theorem ctl_matches_start (p : Ports) : (p.ctl &&& 0x18 == 0x08) = (!p.rst && p.start) := by
  cases p
  decide +revert

theorem ctl_matches_bit (p : Ports) : (p.ctl &&& 0x1C == 0x04) = (!p.rst && (!p.start && p.bitValid)) := by
  cases p
  decide +revert

theorem ctl_matches_endData (p : Ports) :
    (p.ctl &&& 0x1E == 0x02) = (!p.rst && (!p.start && (!p.bitValid && p.bitEnd))) := by
  cases p
  decide +revert

theorem ctl_matches_accept (p : Ports) : (p.ctl &&& 0x19 == 0x01) = (!p.rst && (!p.start && p.runReady)) := by
  cases p
  decide +revert

theorem ctl_matches_idle (p : Ports) : (p.ctl &&& 0x00 == 0x00) = true := by simp

/-- A row that needs a state is enabled in that state alone (R74, R100). -/
theorem row_needs_state (a st : St) : (some a == none || some a == some st) = decide (st = a) := by
  cases a <;> cases st <;> rfl

/-- The operation a control vector asks for is the first, in order of priority, whose bit is 1 (R74). -/
theorem requestOf_eq (p : Ports) :
    requestOf p =
      if p.rst then ⟨.reset, 0x10, 0x10, none⟩
      else if p.start then ⟨.start, 0x08, 0x18, none⟩
      else if p.bitValid then ⟨.bit, 0x04, 0x1C, some .reading⟩
      else if p.bitEnd then ⟨.endData, 0x02, 0x1E, some .reading⟩
      else if p.runReady then ⟨.accept, 0x01, 0x19, some .runComplete⟩
      else ⟨.idle, 0x00, 0x00, none⟩ := by
  simp only [requestOf, portRows, List.find?_cons, ctl_matches_reset, ctl_matches_start, ctl_matches_bit,
    ctl_matches_endData, ctl_matches_accept, ctl_matches_idle]
  split_ifs <;> simp [*]

/-- In the state that it needs, the operation asked for is the one selected (R74, R105). -/
theorem selectOp_requestOf (st : St) (p : Ports) : selectOp ((requestOf p).needs.getD st) p = (requestOf p).op := by
  rw [requestOf_eq]
  split_ifs <;> simp [selectOp, *]

/-- `bit_in` is the operand of `Bit` alone, so the operation asked for reads it only where a bit is offered (R74). -/
theorem requestOf_instr_congr {p : Ports} {b : Bool} (h : p.bitValid = true → b = p.bitIn) :
    (requestOf p).op.instr b = (requestOf p).op.instr p.bitIn := by
  rw [requestOf_eq]
  split_ifs <;> simp [PortOp.instr, *]

/-- What a port word decodes to is the operation it asks for (R74). -/
theorem requestOf_of_decodePort {w : BitVec 8} {i : Instr} (h : (decodePort w).toOption = some i) :
    (requestOf (portsOfWord w)).op.instr (portsOfWord w).bitIn = i := by
  unfold decodePort at h
  split at h
  · cases h
  · exact Option.some.inj h

/-- A word of 8 bits is a port word in either bank (R74). -/
theorem decodeWordIn_port (c : Color) (w : BitVec 8) : decodeWordIn c 8 w.toNat = (decodePort w).toOption := by
  have hw : ¬ 2 ^ 8 ≤ w.toNat := not_le.2 w.isLt
  rw [decodeWordIn, if_neg hw, if_pos le_rfl, BitVec.ofNat_toNat, BitVec.setWidth_eq]

/-- Every table word decodes to its instruction, a codeword's in its bank and a port word in either (R64, R74). -/
theorem decodeWordIn_encodeWord {i : Instr} {c : Color} (hbank : ∀ cw, i.codeword = some cw → cw.color = c) :
    decodeWordIn c (encodeWord i).1 (encodeWord i).2 = some i := by
  cases hc : i.codeword with
  | some cw =>
    have := (Laws.EncodingSound.of_codeword hc).2
    rwa [Laws.EncodingSound.bankFor, hc, Option.map_some, Option.getD_some, hbank cw hc] at this
  | none =>
    obtain rfl | rfl | ⟨b, rfl⟩ | rfl | rfl | rfl := hostOp_of_no_codeword hc
    · exact Laws.EncodingSound.reset.2
    · exact Laws.EncodingSound.start.2
    · exact (Laws.EncodingSound.bit b).2
    · exact Laws.EncodingSound.endData.2
    · exact Laws.EncodingSound.accept.2
    · exact Laws.EncodingSound.idle.2

/-- In every state a step is the operation of the cycle, `Bit` too (R105). -/
theorem step_eq_exec_cycleOp (s : State) : step s = exec (s.cycleOp.instr s.ports.bitIn) s.advanceHost := by
  rw [step_eq_stepOver, exec_portOp]; rfl

/-- The placed ports are on the ports; only `bit_in` is the source's (R74, R106). -/
theorem ports_placePorts (p : Ports) (s : State) :
    (placePorts p s).ports = { p with bitIn := (placePorts p s).ports.bitIn } := by
  cases hvalid : p.bitValid <;> cases hend : p.bitEnd <;>
    simp [placePorts, State.ports, State.raisesEnd, State.keepsEnd, State.move, hvalid, hend]

/-- An offered bit is the one placed (R106). -/
theorem bitIn_placePorts {p : Ports} {s : State} (h : p.bitValid = true) : (placePorts p s).ports.bitIn = p.bitIn := by
  simp [placePorts, State.ports, h]

/-- The step after the placing of ports runs the operation they ask for. -/
theorem step_placePorts (p : Ports) (s : State) :
    step (placePorts p s) = exec ((requestOf p).op.instr p.bitIn) (placePorts p s).advanceHost := by
  have hop : (placePorts p s).cycleOp = (requestOf p).op := by
    rw [State.cycleOp, ports_placePorts]
    exact selectOp_requestOf s.st p
  rw [step_eq_exec_cycleOp, hop, requestOf_instr_congr bitIn_placePorts]

/-- A placed codeword is completed by the bit offered (R85). -/
theorem completedCodeword_placeCodeword {i : Instr} {cw : Codeword} (h : i.codeword = some cw) {s : State}
    (hc : cw.color = s.color) : completedCodeword (placeCodeword cw s) (cw.pattern.getLsbD 0) = some i := by
  obtain ⟨hmin, hmax, hpat, -, hcode⟩ := codeword_facts h
  have hmax : cw.len ≤ 13 := hmax.trans (lmax_le _)
  have hlen : nextLen (placeCodeword cw s) = cw.len := by
    have : (BitVec.ofNat 4 (cw.len - 1)).toNat = cw.len - 1 := by
      rw [BitVec.toNat_ofNat]; exact Nat.mod_eq_of_lt (by omega)
    show (BitVec.ofNat 4 (cw.len - 1)).toNat + 1 = cw.len
    omega
  have hacc : (shiftIn (placeCodeword cw s).codeAcc (cw.pattern.getLsbD 0)).toNat = cw.pattern.toNat := by
    have : cw.pattern.toNat < 2 ^ 13 := cw.pattern.isLt
    have hhead : (placeCodeword cw s).codeAcc.toNat = cw.pattern.toNat / 2 := by
      exact (BitVec.toNat_ofNat _ _).trans (Nat.mod_eq_of_lt (by simp only [Config.codeW]; omega))
    have hlast : (cw.pattern.getLsbD 0).toNat = cw.pattern.toNat % 2 := by
      rw [BitVec.getLsbD, Nat.toNat_testBit, Nat.pow_zero, Nat.div_one]
    rw [shiftIn_toNat, hhead, hlast, Nat.div_add_mod]
    omega
  rw [completedCodeword, hlen, hacc, Nat.mod_eq_of_lt hpat, ← hcode, hc]
  rfl

/-- The step after the placing of a codeword runs its instruction (R82, R85). -/
theorem step_placeCodeword {i : Instr} {cw : Codeword} (h : i.codeword = some cw) {s : State}
    (hc : cw.color = s.color) : step (placeCodeword cw s) = exec i (placeCodeword cw s).advanceHost := by
  have hbit : (placeCodeword cw s).cycleOp = .bit := rfl
  rw [step_of_bit hbit]
  exact (exec_completedCodeword (s := (placeCodeword cw s).advanceHost) rfl (completedCodeword_placeCodeword h hc)).symm

end Sys2Proof.Machine
end

section
/-! SUPPORT. The check of a configuration (R65), clause by clause: what each answers, said of the entries of a bank. -/

namespace Sys2Proof.Machine

/-- R65 (a). -/
theorem noDuplicates_iff (t : LutTable) (c : Color) :
    t.noDuplicates c = true ↔ ((t.entries c).map fun e => (e.bitLength, e.pattern)).Nodup := by
  simp [LutTable.noDuplicates, allPairs_iff, LutEntry.sameCode, List.Nodup, List.pairwise_map, imp_iff_not_or]

theorem isPrefixOf_eq_true_iff (e f : LutEntry) :
    e.isPrefixOf f = true ↔
      e.bitLength < f.bitLength ∧ e.pattern.toNat = f.pattern.toNat / 2 ^ (f.bitLength - e.bitLength) := by
  simp [LutEntry.isPrefixOf]

/-- R65 (b): the pairs in order are all pairs, since the condition is symmetric and no entry is shorter than itself. -/
theorem prefixFree_iff (t : LutTable) (c : Color) :
    t.prefixFree c = true ↔ ∀ e ∈ t.entries c, ∀ f ∈ t.entries c, e.bitLength < f.bitLength →
      e.pattern.toNat ≠ f.pattern.toNat / 2 ^ (f.bitLength - e.bitLength) := by
  rw [LutTable.prefixFree, allPairs_iff]
  simp only [Bool.and_eq_true, Bool.not_eq_true', ← Bool.not_eq_true, isPrefixOf_eq_true_iff, not_and]
  constructor
  · intro h e he f hf
    exact (h.forall_of_forall_of_flip (fun _ _ => by simp) (h.imp fun hxy => ⟨hxy.2, hxy.1⟩) he hf).1
  · intro h
    exact List.pairwise_of_forall_mem_list fun e he f hf => ⟨h e he f hf, h f hf e he⟩

/-- R65 (c) for one entry. -/
theorem inRange_iff (e : LutEntry) :
    e.inRange = true ↔ 2 ≤ e.bitLength ∧ e.bitLength ≤ 13 ∧ e.pattern.toNat < 2 ^ e.bitLength ∧
      (e.kind = .term → e.value.toNat ≤ 63) ∧
      (e.kind = .makeup → e.value.toNat % 64 = 0 ∧ 64 ≤ e.value.toNat ∧ e.value.toNat ≤ 2560) := by
  cases hk : e.kind <;> simp [LutEntry.inRange, hk, and_assoc]

theorem table_inRange_iff (t : LutTable) (c : Color) :
    t.inRange c = true ↔ ∀ e ∈ t.entries c, 2 ≤ e.bitLength ∧ e.bitLength ≤ 13 ∧ e.pattern.toNat < 2 ^ e.bitLength ∧
      (e.kind = .term → e.value.toNat ≤ 63) ∧
      (e.kind = .makeup → e.value.toNat % 64 = 0 ∧ 64 ≤ e.value.toNat ∧ e.value.toNat ≤ 2560) := by
  rw [LutTable.inRange, List.all_eq_true]
  exact forall₂_congr fun e _ => inRange_iff e

theorem count_eq_countP (t : LutTable) (c : Color) (k : Kind) (v : Nat) :
    t.count c k v = (t.entries c).countP (fun e => e.kind == k && e.value.toNat == v) :=
  List.countP_eq_length_filter.symm

/-- R65 (d). -/
theorem complete_iff (t : LutTable) (c : Color) :
    t.complete c = true ↔
      (∀ v, v ≤ 63 → (t.entries c).countP (fun e => e.kind == .term && e.value.toNat == v) = 1) ∧
      (∀ k, 1 ≤ k → k ≤ 40 → (t.entries c).countP (fun e => e.kind == .makeup && e.value.toNat == 64 * k) = 1) ∧
      ∃ e, (t.entries c).filter (fun e => e.kind == .eol) = [e] ∧ e.bitLength = 12 ∧ e.pattern = 1 := by
  rw [LutTable.complete, Bool.and_eq_true, Bool.and_eq_true, and_assoc]
  refine and_congr ?terms (and_congr ?makeups ?eol)
  case terms =>
    simp [count_eq_countP, Nat.lt_succ_iff]
  case makeups =>
    simp only [List.all_eq_true, List.mem_range, count_eq_countP, beq_iff_eq]
    constructor
    · intro h k hk hmax
      have := h (k - 1) (by omega)
      rwa [Nat.sub_add_cancel hk] at this
    · exact fun h k hk => h (k + 1) (by omega) (by omega)
  case eol => simp [List.map_eq_singleton_iff]

/-- Where a bank has one makeup entry of a value, its codes of this value are that entry's. -/
theorem makeupCodes_of_count {t : LutTable} {c : Color} {v : Nat}
    (h : (t.entries c).countP (fun e => e.kind == .makeup && e.value.toNat == v) = 1) :
    ∃ e, t.makeupCodes c v = [(e.bitLength, e.pattern)] ∧
      ∀ f, f = e ↔ f ∈ t.entries c ∧ f.kind = .makeup ∧ f.value.toNat = v := by
  rw [List.countP_eq_length_filter, List.length_eq_one_iff] at h
  obtain ⟨e, he⟩ := h
  refine ⟨e, by rw [LutTable.makeupCodes, he]; rfl, fun f => ?_⟩
  rw [← List.mem_singleton, ← he]
  simp

/-- R65 (e), of a table that meets (c) and (d): a shared value has one makeup entry in each bank. -/
theorem sharedIdentical_iff {t : LutTable}
    (hmod : ∀ e ∈ t.entries .white, e.kind = .makeup → e.value.toNat % 64 = 0)
    (hone : ∀ c k, 1 ≤ k → k ≤ 40 →
      (t.entries c).countP (fun e => e.kind == .makeup && e.value.toNat == 64 * k) = 1) :
    t.sharedIdentical = true ↔
      ∀ e ∈ t.entries .white, ∀ f ∈ t.entries .black, e.kind = .makeup → f.kind = .makeup → e.value = f.value →
        1792 ≤ e.value.toNat → e.value.toNat ≤ 2560 → e.bitLength = f.bitLength ∧ e.pattern = f.pattern := by
  have hcodes := fun (c : Color) (k : Nat) (hk : k < 13) =>
    makeupCodes_of_count (hone c (28 + k) (by omega) (by omega))
  have hvalue : ∀ k, 1792 + 64 * k = 64 * (28 + k) := by omega
  simp only [LutTable.sharedIdentical, List.all_eq_true, List.mem_range, beq_iff_eq, hvalue]
  constructor
  · intro h e he f hf hek hfk hef hmin hmax
    have := hmod e he hek
    obtain ⟨k, hk⟩ : ∃ k, e.value.toNat = 64 * (28 + k) := ⟨e.value.toNat / 64 - 28, by omega⟩
    obtain ⟨e', hcode, he'⟩ := hcodes .white k (by omega)
    obtain ⟨f', hcode', hf'⟩ := hcodes .black k (by omega)
    obtain rfl := (he' e).2 ⟨he, hek, hk⟩
    obtain rfl := (hf' f).2 ⟨hf, hfk, hef ▸ hk⟩
    simpa [hcode, hcode'] using h k (by omega)
  · intro h k hk
    obtain ⟨e, hcode, he⟩ := hcodes .white k hk
    obtain ⟨f, hcode', hf⟩ := hcodes .black k hk
    obtain ⟨hemem, hek, hev⟩ := (he e).1 rfl
    obtain ⟨hfmem, hfk, hfv⟩ := (hf f).1 rfl
    obtain ⟨hlen, hpat⟩ := h e hemem f hfmem hek hfk (BitVec.eq_of_toNat_eq (hev.trans hfv.symm)) (by omega) (by omega)
    rw [hcode, hcode', hlen, hpat]

theorem forall_color {P : Color → Prop} : (∀ c, P c) ↔ P .white ∧ P .black :=
  ⟨fun h => ⟨h .white, h .black⟩, fun ⟨hwhite, hblack⟩ c => by cases c <;> assumption⟩

/-- The check answers (a) to (d) of each bank, and (e) (R65). -/
theorem wellFormed_eq_true_iff (t : LutTable) :
    t.wellFormed = true ↔ (∀ c, t.noDuplicates c = true) ∧ (∀ c, t.prefixFree c = true) ∧
      (∀ c, t.inRange c = true) ∧ (∀ c, t.complete c = true) ∧ t.sharedIdentical = true := by
  simp only [LutTable.wellFormed, LutTable.bankWellFormed, Bool.and_eq_true, forall_color]
  tauto

/-- The check decides R65. -/
theorem wellFormed_iff_passesR65 (t : LutTable) : t.wellFormed = true ↔ Claims.PassesR65 t := by
  rw [wellFormed_eq_true_iff]
  simp only [noDuplicates_iff, prefixFree_iff, table_inRange_iff, complete_iff, Claims.PassesR65]
  refine and_congr_right fun _ => and_congr_right fun _ => and_congr_right fun hrange => and_congr_right fun hone => ?_
  refine sharedIdentical_iff (fun e he hk => ?_) fun c => (hone c).2.1
  obtain ⟨-, -, -, -, hmakeup⟩ := hrange .white e he
  exact (hmakeup hk).1

end Sys2Proof.Machine
end

section
/-! SUPPORT. The rows of the makeup codes and of the EOL code as the statements quote them, and what their codewords do
(R67 to R69, R71, R91, R92). -/

namespace Sys2Proof.Machine

open Claims

theorem makeupTable_rowIsEntry (c : Color) : (makeupTable c).all (rowIsEntry .makeup c) = true := by
  cases c <;> decide +kernel

theorem makeupTable_row {c : Color} {r : Row} (h : r ∈ makeupTable c) :
    r.instr.codeword = some r.code ∧ r.code.color = c ∧ (entryOfInstr r.instr).kind = .makeup ∧
      runLengthOf (entryOfInstr r.instr) = r.run := by
  simpa [rowIsEntry, and_assoc] using List.all_eq_true.1 (makeupTable_rowIsEntry c) r h

/-- The rows marked shared are those from 1792 on (R61, R68). -/
theorem makeupTable_shared (c : Color) :
    ((makeupTable c).all fun r => (entryOfInstr r.instr).shared == decide (1792 ≤ r.run)) = true := by
  cases c <;> decide +kernel

theorem makeupTable_shared_iff {c : Color} {r : Row} (h : r ∈ makeupTable c) :
    (entryOfInstr r.instr).shared = true ↔ 1792 ≤ r.run := by
  rw [beq_iff_eq.1 (List.all_eq_true.1 (makeupTable_shared c) r h), decide_eq_true_iff]

/-- The lookup of a codeword's length and bits finds its entry (R43). -/
theorem lutRead_codeword {i : Instr} {cw : Codeword} {c : Color} (h : i.codeword = some cw) (hc : cw.color = c) :
    lutRead t4mh c cw.len (cw.pattern.setWidth 14) = some (entryOfInstr i) := by
  obtain ⟨-, -, -, hhit, -⟩ := codeword_facts h
  exact hc ▸ hhit

/-- An awaited makeup codeword whose sum fits adds its length (R91). -/
theorem exec_makeupTable_fits {c : Color} {r : Row} (hr : r ∈ makeupTable c) {s : State} (ha : s.awaits r.code = true)
    (hfits : s.runAcc.toNat + r.run < 2 ^ Config.runW) :
    exec r.instr s = .next
      { s with runAcc := BitVec.ofNat Config.runW (s.runAcc.toNat + r.run), codeAcc := 0, codeLen := 0 } := by
  obtain ⟨hcode, -, hkind, hrun⟩ := makeupTable_row hr
  rw [exec_awaited hcode ha, entryAction_makeup hkind, hrun, makeupAction_fits hfits]

/-- The EOL rows are the EOL instructions, with their entry (R69). -/
theorem eolTable_row {r : Instr × Codeword} (h : r ∈ eolTable) :
    r.1.codeword = some r.2 ∧ entryOfInstr r.1 = ⟨.eol, 12, 1, false, 0xFFF⟩ := by
  simp only [eolTable, List.mem_cons, List.not_mem_nil, or_false] at h
  rcases h with rfl | rfl <;> exact ⟨rfl, rfl⟩

/-- An awaited EOL codeword ends the line (R92). -/
theorem exec_eol_awaited {i : Instr} {cw : Codeword} (h : i.codeword = some cw) (hk : (entryOfInstr i).kind = .eol)
    {s : State} (ha : s.awaits cw = true) : exec i s = .next (eolAction s) := by
  rw [exec_awaited h ha, entryAction_eol hk]

end Sys2Proof.Machine
end

section
/-! SUPPORT. Whole runs and lines (R76): codewords one after another, and the expansions `RUN` and `LINE`. -/

namespace Sys2Proof.Machine

open Claims

/-- An awaited codeword is its remaining bits (R85): each but the last leaves its meaning as it is, and the last one has
it. -/
theorem exec_eq_deliverBits_left {i : Instr} {cw : Codeword} (h : i.codeword = some cw) {k : Nat} {s : State}
    (ha : s.awaits cw = true) (hk : s.bitsLeft cw = k + 1) :
    exec i s = .next (deliverBits (bitsOf (k + 1) cw.pattern.toNat) s) := by
  induction k generalizing s with
  | zero =>
    rw [State.bitsLeft] at hk
    have hbit : codeBit cw s.codeLen.toNat = cw.pattern.toNat.testBit 0 := by
      rw [codeBit, show cw.len - 1 - s.codeLen.toNat = 0 by omega]
    rw [bitEvent_last_bit h ha (by rw [nextLen]; omega), hbit]
    rfl
  | succ k ih =>
    rw [State.bitsLeft] at hk
    have hbit : codeBit cw s.codeLen.toNat = cw.pattern.toNat.testBit (k + 1) := by
      rw [codeBit, show cw.len - 1 - s.codeLen.toNat = k + 1 by omega]
    have hn : nextLen s < cw.len := by rw [nextLen]; omega
    obtain ⟨hnext, ha'⟩ := bitEvent_on_the_way h ha hn
    have hk' : (bitEvent (codeBit cw s.codeLen.toNat) s).bitsLeft cw = k + 1 := by
      have hlen : cw.len ≤ 13 := (codeword_facts h).2.1.trans (lmax_le _)
      rw [hnext, State.bitsLeft]
      show cw.len - (BitVec.ofNat 4 (nextLen s)).toNat = k + 1
      rw [BitVec.toNat_ofNat, Nat.mod_eq_of_lt (by omega), nextLen]
      omega
    rw [← exec_on_the_way h ha hn, ih ha' hk', hbit]
    rfl

/-- A fresh decoder awaits every codeword of its bank. -/
theorem awaits_codeword_of_fresh {i : Instr} {cw : Codeword} (h : i.codeword = some cw) {s : State} (hs : s.Fresh)
    (hc : s.color = cw.color) : s.awaits cw = true := by
  obtain ⟨hmin, -, hpat, -⟩ := codeword_facts h
  exact awaits_of_fresh hs hc (by omega) hpat

/-- A fresh decoder takes a codeword of its bank as its bits (R85). -/
theorem exec_eq_deliverBits_of_fresh {i : Instr} {cw : Codeword} (h : i.codeword = some cw) {s : State}
    (hs : s.Fresh) (hc : s.color = cw.color) : exec i s = .next (deliverBits cw.bits s) := by
  obtain ⟨hmin, -⟩ := codeword_facts h
  have hleft : s.bitsLeft cw = cw.len - 1 + 1 := by
    rw [State.bitsLeft, hs.2]
    show cw.len - 0 = _
    omega
  rw [exec_eq_deliverBits_left h (awaits_codeword_of_fresh h hs hc) hleft, Nat.sub_add_cancel (by omega)]
  rfl

theorem execAll_cons {i : Instr} {is : List Instr} {s t : State} (h : exec i s = .next t) :
    execAll (i :: is) s = execAll is t := by
  rw [execAll, h]

/-- Makeup codes of a color and then a terminating code of it add up onto a sum that is pending (R90, R91, R94). -/
theorem execAll_makeups_term {c : Color} {ms : List Row} {r : Row} {s : State} (hms : ∀ m ∈ ms, m ∈ makeupTable c)
    (hr : r ∈ termTable c) (hs : s.Fresh) (hc : s.color = c)
    (hfits : s.runAcc.toNat + ((ms.map Row.run).sum + r.run) < 2 ^ Config.runW) :
    execAll (ms.map Row.instr ++ [r.instr]) s = .next
      { s with outColor := c, outLen := BitVec.ofNat Config.runW (s.runAcc.toNat + ((ms.map Row.run).sum + r.run)),
               color := otherColor c, runAcc := 0, codeAcc := 0, codeLen := 0, st := .runComplete } := by
  induction ms generalizing s with
  | nil =>
    obtain ⟨hcode, hbank, -⟩ := termTable_row hr
    have ha := awaits_codeword_of_fresh hcode hs (hc.trans hbank.symm)
    simp only [List.map_nil, List.sum_nil, Nat.zero_add] at hfits ⊢
    exact execAll_cons (exec_termTable_fits hr ha hfits)
  | cons m ms ih =>
    have hm := hms m List.mem_cons_self
    obtain ⟨hcode, hbank, -⟩ := makeupTable_row hm
    have ha := awaits_codeword_of_fresh hcode hs (hc.trans hbank.symm)
    simp only [List.map_cons, List.sum_cons] at hfits ⊢
    have hsum : (BitVec.ofNat Config.runW (s.runAcc.toNat + m.run)).toNat = s.runAcc.toNat + m.run := by
      rw [BitVec.toNat_ofNat]; exact Nat.mod_eq_of_lt (by omega)
    have hrest := ih (s := { s with runAcc := BitVec.ofNat Config.runW (s.runAcc.toNat + m.run), codeAcc := 0,
                                    codeLen := 0 })
      (fun x hx => hms x (List.mem_cons_of_mem m hx)) ⟨hs.1, rfl⟩ hc (by simp only [hsum]; omega)
    simp only [hsum] at hrest
    rw [List.cons_append, execAll_cons (exec_makeupTable_fits hm ha (by omega)), hrest]
    simp only [Nat.add_assoc]

/-- The LUT's entry of a kind and a run length is found by its value, for every row (R76). -/
theorem codeFor_rows (c : Color) :
    ((makeupTable c).all fun r => codeFor c .makeup r.run == some r.instr) = true ∧
      ((termTable c).all fun r => codeFor c .term r.run == some r.instr) = true := by
  cases c <;> decide +kernel

theorem codeFor_makeupTable {c : Color} {r : Row} (h : r ∈ makeupTable c) :
    codeFor c .makeup r.run = some r.instr :=
  beq_iff_eq.1 (List.all_eq_true.1 (codeFor_rows c).1 r h)

theorem codeFor_termTable {c : Color} {r : Row} (h : r ∈ termTable c) : codeFor c .term r.run = some r.instr :=
  beq_iff_eq.1 (List.all_eq_true.1 (codeFor_rows c).2 r h)

/-- The run lengths of the rows, in order (R66 to R68, R70, R71). -/
theorem map_run_makeupTable (c : Color) : (makeupTable c).map Row.run = (List.range 40).map fun k => 64 * (k + 1) := by
  cases c <;> decide +kernel

theorem map_run_termTable (c : Color) : (termTable c).map Row.run = List.range 64 := by
  cases c <;> decide +kernel

/-- Every multiple of 64 up to 2560 is a makeup code's (R65 (d)). -/
theorem exists_makeupTable_row (c : Color) {k : Nat} (hmin : 1 ≤ k) (hmax : k ≤ 40) :
    ∃ r ∈ makeupTable c, r.run = 64 * k := by
  rw [← List.mem_map, map_run_makeupTable, List.mem_map]
  exact ⟨k - 1, List.mem_range.2 (by omega), by omega⟩

/-- Every length up to 63 is a terminating code's (R65 (d)). -/
theorem exists_termTable_row (c : Color) {n : Nat} (hn : n < 64) : ∃ r ∈ termTable c, r.run = n := by
  rw [← List.mem_map, map_run_termTable, List.mem_range]
  exact hn

/-- What `RUN` leaves after the codes of 2560 is below 2624, so one makeup code and a terminating code are enough
(R76). -/
theorem shortPart_lt (n : Nat) : shortPart n < 2624 := by
  unfold shortPart longCodes
  split <;> omega

/-- The codes of 2560 and the rest are the run (R76). -/
theorem longCodes_add_shortPart (n : Nat) : longCodes n * 2560 + shortPart n = n := by
  unfold shortPart longCodes
  split <;> omega

/-- The rows of the makeup code of what remains of a run, none where less than 64 remain (R76). -/
theorem exists_shortPart_rows (c : Color) (n : Nat) :
    ∃ ms : List Row, (∀ m ∈ ms, m ∈ makeupTable c) ∧ (ms.map Row.run).sum = 64 * (shortPart n / 64) ∧
      (if shortPart n < 64 then [] else [(codeFor c .makeup (64 * (shortPart n / 64))).getD .idle]) =
        ms.map Row.instr := by
  have := shortPart_lt n
  split
  next hshort => exact ⟨[], by simp, by simp [Nat.div_eq_of_lt hshort], rfl⟩
  next hlong =>
    obtain ⟨m, hm, hrun⟩ := exists_makeupTable_row c (k := shortPart n / 64) (by omega) (by omega)
    exact ⟨[m], by simpa using hm, by simpa using hrun, by rw [← hrun, codeFor_makeupTable hm]; rfl⟩

/-- `RUN(c, n)` is makeup codes of `c` and then a terminating code of it, which add up to `n` (R76). -/
theorem runCodes_rows (c : Color) (n : Nat) :
    ∃ (ms : List Row) (r : Row), (∀ m ∈ ms, m ∈ makeupTable c) ∧ r ∈ termTable c ∧
      runCodes c n = ms.map Row.instr ++ [r.instr] ∧ (ms.map Row.run).sum + r.run = n := by
  obtain ⟨l, hl, (hlrun : l.run = 2560)⟩ := exists_makeupTable_row c (k := 40) (by omega) (by omega)
  obtain ⟨ms, hms, hmsrun, hmscodes⟩ := exists_shortPart_rows c n
  obtain ⟨r, hr, hrrun⟩ := exists_termTable_row c (Nat.mod_lt (shortPart n) (by omega : 64 > 0))
  refine ⟨List.replicate (longCodes n) l ++ ms, r, ?rows, hr, ?codes, ?sum⟩
  case rows =>
    intro m hm
    rcases List.mem_append.1 hm with hm | hm
    · exact List.eq_of_mem_replicate hm ▸ hl
    · exact hms m hm
  case codes =>
    rw [runCodes, hmscodes, ← hrrun, codeFor_termTable hr, ← hlrun, codeFor_makeupTable hl, List.map_append,
      List.map_replicate]
    rfl
  case sum =>
    rw [List.map_append, List.sum_append, List.map_replicate, List.sum_replicate, smul_eq_mul, hlrun, hmsrun, hrrun]
    calc longCodes n * 2560 + 64 * (shortPart n / 64) + shortPart n % 64
        = longCodes n * 2560 + shortPart n := by rw [Nat.add_assoc, Nat.div_add_mod]
      _ = n := longCodes_add_shortPart n

/-- `RUN(c, n)` emits one run of `n` (R76, R94). -/
theorem execAll_runCodes {c : Color} {n : Nat} {s : State} (hn : n < 2 ^ 32) (hs : s.Fresh) (hc : s.color = c)
    (hsum : s.runAcc = 0) :
    execAll (runCodes c n) s = .next
      { s with outColor := c, outLen := BitVec.ofNat 32 n, color := otherColor c,
               runAcc := 0, codeAcc := 0, codeLen := 0, st := .runComplete } := by
  obtain ⟨ms, r, hms, hr, hcodes, rfl⟩ := runCodes_rows c n
  have hzero : s.runAcc.toNat = 0 := by rw [hsum]; rfl
  have hall := execAll_makeups_term hms hr hs hc (by rw [hzero, Nat.zero_add]; exact hn)
  rw [hzero, Nat.zero_add] at hall
  exact hcodes ▸ hall

/-- In either bank the EOL codeword ends the line of a fresh decoder, for its bits are the same in both (R69, R76). -/
theorem exec_wEol_fresh {s : State} (hs : s.Fresh) : exec .wEol s = .next (eolAction s) := by
  cases hc : s.color with
  | white => exact exec_eol_awaited rfl rfl (awaits_codeword_of_fresh (i := .wEol) rfl hs hc)
  | black =>
    have ha : s.awaits ⟨.black, 12, 0x001⟩ = true := awaits_codeword_of_fresh (i := .bEol) rfl hs hc
    have hunawaited : s.awaits ⟨.white, 12, 0x001⟩ = false := by
      rw [← Bool.not_eq_true, awaits_iff, hc]
      simp
    rw [exec_unawaited rfl hunawaited, ← exec_eol_awaited (i := .bEol) rfl rfl ha]
    exact (exec_eq_deliverBits_of_fresh (i := .bEol) rfl hs hc).symm

/-- A line from a color on, read by a fresh decoder of that color, delivers its runs and ends (R76, R107). -/
theorem execAll_lineCodes {c : Color} {ns : List Nat} {s : State} (hns : ∀ n ∈ ns, n < 2 ^ 32) (hs : s.Fresh)
    (hc : s.color = c) (hsum : s.runAcc = 0) (herr : s.errCode = .none) :
    ∃ t, execAll (lineCodes c ns) s = .next t ∧ t.lineResult = (s.delivered ++ lineRuns c ns, .endOfLine, .none) := by
  induction ns generalizing c s with
  | nil =>
    refine ⟨eolAction s, by rw [lineCodes, execAll_cons (exec_wEol_fresh hs)]; rfl, ?_⟩
    simp [State.lineResult, lineRuns, herr]
  | cons n ns ih =>
    have hrun := execAll_runCodes (hns n List.mem_cons_self) hs hc hsum
    obtain ⟨t, ht, hresult⟩ := ih (c := otherColor c)
      (s := { s with outColor := c, outLen := BitVec.ofNat 32 n, color := otherColor c, runAcc := 0, codeAcc := 0,
                     codeLen := 0, st := .reading, delivered := s.delivered ++ [⟨c, BitVec.ofNat 32 n⟩] })
      (fun m hm => hns m (List.mem_cons_of_mem n hm)) ⟨rfl, rfl⟩ rfl rfl herr
    refine ⟨t, (execAll_append hrun).trans ((execAll_cons rfl).trans ht), ?_⟩
    rw [hresult, lineRuns, List.append_assoc]
    rfl

end Sys2Proof.Machine
end

section
/-! SUPPORT. A stream in which no codeword stands at the head (R72): it is held bit by bit, up to `LMAX`. -/

namespace Sys2Proof.Machine

/-- The bits of a pattern are its low bits (R47). -/
theorem bitsOf_mod {m n : Nat} (h : n ≤ m) (p : Nat) : bitsOf n (p % 2 ^ m) = bitsOf n p := by
  induction n with
  | zero => rfl
  | succ n ih => rw [bitsOf, bitsOf, Nat.testBit_mod_two_pow, ih (by omega)]; simp [show n < m by omega]

/-- A bit shifted in stands after the bits held (R81). -/
theorem bitsOf_shiftIn (acc : CodeAcc) (b : Bool) {n : Nat} (hn : n ≤ 13) :
    bitsOf (n + 1) (shiftIn acc b).toNat = bitsOf n acc.toNat ++ [b] := by
  rw [shiftIn_toNat, bitsOf_mod (by omega), bitsOf_add, Nat.pow_one, shifted_div_two, bitsOf, bitsOf,
    shifted_testBit_zero]

/-- A hit is a codeword of the bank, whose bits are those looked up (R43, R64). -/
theorem codeword_of_hit {c : Color} {len : Nat} {p : CodeAcc} {e : LutEntry} (h : lutRead t4mh c len p = some e) :
    ∃ (i : Instr) (cw : Codeword), i.codeword = some cw ∧ cw.color = c ∧ cw.bits = bitsOf len p.toNat := by
  obtain ⟨i, hi, -⟩ := (lutRead_iff_codeAt c len p e).1 h
  obtain ⟨cw, hcw, hcolor, rfl, hpat⟩ := codeAt_some hi
  exact ⟨i, cw, hcw, hcolor, by rw [Codeword.bits, hpat, bitsOf_mod le_rfl]⟩

/-- No codeword of the bank stands at the head of the bits. -/
def NoCodewordAtHead (c : Color) (bits : List Bool) : Prop :=
  ∀ (i : Instr) (cw : Codeword), i.codeword = some cw → cw.color = c → ¬ cw.bits <+: bits

theorem NoCodewordAtHead.of_append {c : Color} {bits more : List Bool} (h : NoCodewordAtHead c (bits ++ more)) :
    NoCodewordAtHead c bits :=
  fun i cw hcw hc hhead => h i cw hcw hc (hhead.trans (List.prefix_append bits more))

/-- The decoder reads and holds these bits of a codeword (R23, R24). -/
def State.Holds (s : State) (bits : List Bool) : Prop :=
  s.st = .reading ∧ s.codeLen.toNat = bits.length ∧ bitsOf bits.length s.codeAcc.toNat = bits

theorem holds_nil_of_fresh {s : State} (hs : s.Fresh) : s.Holds [] := ⟨hs.1, by rw [hs.2]; rfl, rfl⟩

/-- Below `LMAX` one more bit, where the bits with it are no codeword, is held (R83). -/
theorem State.Holds.next_bit {s : State} {bits : List Bool} {b : Bool} (h : s.Holds bits)
    (hlen : bits.length < lmax t4mh s.color) (hno : NoCodewordAtHead s.color (bits ++ [b])) :
    (bitEvent b s).Holds (bits ++ [b]) ∧ (bitEvent b s).color = s.color := by
  obtain ⟨hst, hheld, hbits⟩ := h
  have hmax := lmax_le s.color
  have hnext : nextLen s = bits.length + 1 := by rw [nextLen, hheld]
  have hshifted : bitsOf (bits.length + 1) (shiftIn s.codeAcc b).toNat = bits ++ [b] := by
    rw [bitsOf_shiftIn _ _ (by omega), hbits]
  have hmiss : lutRead t4mh s.color (nextLen s) (shiftIn s.codeAcc b) = none := by
    cases hr : lutRead t4mh s.color (nextLen s) (shiftIn s.codeAcc b) with
    | none => rfl
    | some e =>
      obtain ⟨i, cw, hcw, hc, hcwbits⟩ := codeword_of_hit hr
      rw [hnext, hshifted] at hcwbits
      exact absurd (hcwbits ▸ List.prefix_refl _) (hno i cw hcw hc)
  rw [bitEvent_continues hst hmiss (by omega), State.Holds, List.length_append, List.length_singleton]
  exact ⟨⟨hst, (storedLen_toNat (by omega) _).trans hnext, hshifted⟩, rfl⟩

/-- Bits with no codeword at their head, up to `LMAX` of them, are held by a fresh decoder (R83). -/
theorem deliverBits_holds {s : State} (hs : s.Fresh) {bits : List Bool} (hlen : bits.length ≤ lmax t4mh s.color)
    (hno : NoCodewordAtHead s.color bits) :
    (deliverBits bits s).Holds bits ∧ (deliverBits bits s).color = s.color := by
  induction bits using List.reverseRecOn with
  | nil => exact ⟨holds_nil_of_fresh hs, rfl⟩
  | append_singleton bits b ih =>
    rw [List.length_append, List.length_singleton] at hlen
    obtain ⟨hheld, hcolor⟩ := ih (by omega) hno.of_append
    rw [← hcolor] at hlen hno
    rw [deliverBits_append, ← hcolor]
    exact hheld.next_bit hlen hno

/-- With `LMAX` bits held one more bit is one too many (R84). -/
theorem State.Holds.invalid_bit {s : State} {bits : List Bool} (h : s.Holds bits)
    (hlen : bits.length = lmax t4mh s.color) (b : Bool) :
    (bitEvent b s).st = .error ∧ (bitEvent b s).errCode = .invalidCodeword ∧
      (bitEvent b s).codeLen.toNat = lmax t4mh s.color + 1 := by
  obtain ⟨hst, hheld, -⟩ := h
  have hmax := lmax_le s.color
  have hnext : nextLen s = lmax t4mh s.color + 1 := by rw [nextLen, hheld, hlen]
  rw [bitEvent_overlong hst (lutRead_above_lmax _ (by omega)) (by omega)]
  exact ⟨rfl, rfl, (storedLen_toNat (by omega) _).trans hnext⟩

/-- No codeword of a bank and no dead string stands at the head of the other (R72). -/
def deadCheck (c : Color) : Bool :=
  Claims.deadPrefixes.all fun d => (bankInstrs c).all fun i =>
    !(encodeBits i).isPrefixOf d && !d.isPrefixOf (encodeBits i)

theorem deadCheck_all (c : Color) : deadCheck c = true := by cases c <;> decide +kernel

/-- Whatever follows a dead string, no codeword of either bank stands at the head (R72). -/
theorem noCodewordAtHead_dead (c : Color) {d : List Bool} (hd : d ∈ Claims.deadPrefixes) (tail : List Bool) :
    NoCodewordAtHead c (d ++ tail) := by
  rintro i cw hcw rfl hhead
  have hbits : encodeBits i = cw.bits := by rw [encodeBits, hcw]; rfl
  have hcheck := List.all_eq_true.1 (List.all_eq_true.1 (deadCheck_all cw.color) d hd) i (mem_bankInstrs hcw)
  simp only [hbits, Bool.and_eq_true, Bool.not_eq_true', ← Bool.not_eq_true, List.isPrefixOf_iff_prefix] at hcheck
  rcases List.prefix_or_prefix_of_prefix hhead (List.prefix_append d tail) with h | h
  · exact hcheck.1 h
  · exact hcheck.2 h

end Sys2Proof.Machine
end

section
/-! SUPPORT. The statements about the encoding: the decoder, the check of a configuration, the codewords, whole runs and
lines. -/

namespace Sys2Proof.Machine

/-- Settles O2: of the lookups along the codeword's bits only the last hits. -/
theorem codewordDecodesWhateverFollows : Obligations.CodewordDecodesWhateverFollows := by
  intro i cw rest h
  obtain ⟨hmin, -, hpat, -, -⟩ := codeword_facts h
  have hall := decodeFrom_codeword h rest (k := cw.len - 1) (by omega)
  rwa [Nat.sub_add_cancel (by omega), Nat.sub_self, Nat.div_eq_of_lt hpat] at hall

/-- Settles O3: the codeword found is one that no bits before are the leading bits of. -/
theorem decodedBitsBeginWithTheCodeword : Obligations.DecodedBitsBeginWithTheCodeword := by
  intro c bits rest i h
  obtain ⟨cw, k, hcw, hcolor, hlen, -, hbits⟩ := codeword_of_decodeFrom h
  rw [Nat.zero_add] at hlen
  exact ⟨cw, hcw, hcolor, by rw [Codeword.bits, hlen, hbits]⟩

/-- Settles O4: a row matches where its codeword is the leading bits, and that is so of one codeword at most. -/
theorem windowDecodesByItsLeadingBits : Obligations.WindowDecodesByItsLeadingBits := by
  intro c w i
  constructor
  · intro h
    obtain ⟨r, hr, hmatch, rfl⟩ := row_of_decodeWindow h
    exact (row_matches_iff w hr).1 hmatch
  · rintro ⟨cw, hcw, rfl, hw⟩
    obtain ⟨r, hr, rfl⟩ := row_of_codeword hcw
    obtain ⟨j, hj⟩ := decodeWindow_of_row hr ((row_matches_iff w hr).2 ⟨cw, hcw, rfl, hw⟩)
    obtain ⟨q, hq, hmatch, rfl⟩ := row_of_decodeWindow hj
    obtain ⟨b, hb, hcolor, hwb⟩ := (row_matches_iff w hq).1 hmatch
    rw [hj, codeword_of_window_unique hb hcw hcolor hwb hw]

/-- Settles O1: the words of the code tables are codewords, whatever follows them, and the port words are evaluated. -/
theorem sampleWordsDecode : Obligations.SampleWordsDecode :=
  ⟨codewordDecodesWhateverFollows .wT2 ⟨.white, 4, 0b0111⟩ [] rfl,
    codewordDecodesWhateverFollows .wM64 ⟨.white, 5, 0b11011⟩ [false] rfl,
    codewordDecodesWhateverFollows .wX1792 ⟨.white, 11, 0b00000001000⟩ [] rfl,
    codewordDecodesWhateverFollows .wEol ⟨.white, 12, 0b000000000001⟩ [] rfl,
    codewordDecodesWhateverFollows .bT2 ⟨.black, 2, 0b11⟩ [] rfl,
    codewordDecodesWhateverFollows .bT1 ⟨.black, 3, 0b010⟩ [] rfl, rfl, rfl⟩

/-- Settles O51: a placed codeword is completed by the bit offered, and placed ports select the operation they ask for. -/
theorem placedWordIsTheNextInstruction : Obligations.PlacedWordIsTheNextInstruction := by
  intro i s hbank
  have hword := decodeWordIn_encodeWord hbank
  refine ⟨hword, ?_⟩
  rw [State.withFetchWord, placeWord, hword]
  cases he : i.encoding with
  | code cw =>
    have hcw : i.codeword = some cw := by rw [Instr.codeword, he]
    simp only [he]
    exact step_placeCodeword hcw (hbank cw hcw)
  | port w =>
    simp only [encodeWord, he, decodeWordIn_port] at hword ⊢
    rw [BitVec.ofNat_toNat, BitVec.setWidth_eq, step_placePorts, requestOf_of_decodePort hword]

/-- Settles O5: in `READING` and in `RUN_COMPLETE` the rows that need the state stand in the chain's order, and in
every other state they are passed over. -/
theorem portTableAgreesWithPriority : Obligations.PortTableAgreesWithPriority := by
  intro st p
  simp only [portRows, List.find?_cons, ctl_matches_reset, ctl_matches_start, ctl_matches_bit, ctl_matches_endData,
    ctl_matches_accept, ctl_matches_idle, row_needs_state]
  unfold selectOp
  by_cases hreading : st = .reading
  · subst hreading
    split_ifs <;> simp_all
  by_cases hcomplete : st = .runComplete
  · subst hcomplete
    split_ifs <;> simp_all
  · split_ifs <;> simp_all

/-- Settles O7: each clause of the check decides its clause of R65, the last where those before it hold. -/
theorem malformedTableIsRefused : Obligations.MalformedTableIsRefused :=
  fun t => ⟨wellFormed_iff_passesR65 t, fun h => if_pos h, fun h => if_neg (by simp [h])⟩

/-- Settles O6: the check of `T4_MH` is evaluated, and decides R65. -/
theorem tableIsWellFormed : Obligations.TableIsWellFormed :=
  ⟨t4mh_wellFormed, (wellFormed_iff_passesR65 t4mh).1 t4mh_wellFormed⟩

/-- Settles O11: the rows are their instructions' entries, and the lookup finds the entry of every codeword. -/
theorem lutHoldsTheCodeTables : Obligations.LutHoldsTheCodeTables := by
  refine ⟨fun c r hr => ?term, fun c r hr => ?makeup, fun r hr => ?eol⟩
  case term =>
    obtain ⟨hcode, hbank, hkind, hrun⟩ := termTable_row hr
    exact ⟨_, lutRead_codeword hcode hbank, hkind, hrun, hcode, hbank⟩
  case makeup =>
    obtain ⟨hcode, hbank, hkind, hrun⟩ := makeupTable_row hr
    exact ⟨_, lutRead_codeword hcode hbank, hkind, hrun, makeupTable_shared_iff hr, hcode, hbank⟩
  case eol =>
    obtain ⟨hcode, hentry⟩ := eolTable_row hr
    exact ⟨_, hentry ▸ lutRead_codeword hcode rfl, rfl, rfl, by decide, hcode⟩

/-- Settles O21: the row's sum fits, and the codeword's color is white. -/
theorem whiteTerminatingCodewordsEmitTheirRun : Obligations.WhiteTerminatingCodewordsEmitTheirRun :=
  fun _ hr _ ha hfits => exec_termTable_fits (c := .white) hr ha hfits

/-- Settles O22: the row's sum fits, and the codeword's color is black. -/
theorem blackTerminatingCodewordsEmitTheirRun : Obligations.BlackTerminatingCodewordsEmitTheirRun :=
  fun _ hr _ ha hfits => exec_termTable_fits (c := .black) hr ha hfits

/-- Settles O23, by the makeup action of the row's entry. -/
theorem whiteMakeupCodewordsAddTheirLength : Obligations.WhiteMakeupCodewordsAddTheirLength :=
  fun _ hr _ ha hfits => exec_makeupTable_fits (c := .white) hr ha hfits

/-- Settles O24, by the makeup action of the row's entry. -/
theorem blackMakeupCodewordsAddTheirLength : Obligations.BlackMakeupCodewordsAddTheirLength :=
  fun _ hr _ ha hfits => exec_makeupTable_fits (c := .black) hr ha hfits

/-- Settles O25, by the EOL action of the row's entry. -/
theorem eolCodewordsEndTheLine : Obligations.EolCodewordsEndTheLine := by
  intro r hr s ha
  obtain ⟨hcode, hentry⟩ := eolTable_row hr
  exact exec_eol_awaited hcode (by rw [hentry]) ha

/-- Settles O29: what a codeword means where nothing awaits it. -/
theorem unawaitedCodewordIsJustBits : Obligations.UnawaitedCodewordIsJustBits :=
  fun _ _ _ hcw ha => exec_unawaited hcw ha

/-- Settles O54: the expansion is a chain of makeup codes and a terminating code. -/
theorem runExpansionEmitsTheRun : Obligations.RunExpansionEmitsTheRun :=
  fun _ _ _ hn hs hc hsum => execAll_runCodes hn hs hc hsum

/-- Settles O55: `Start` makes the decoder fresh and white, with nothing delivered. -/
theorem lineExpansionDeliversItsRuns : Obligations.LineExpansionDeliversItsRuns := by
  refine ⟨fun ns s hns => ?_, fun ns s hns hs hc hsum herr => execAll_lineCodes hns hs hc hsum herr⟩
  have hstart : exec .start s = .next (freshLine s) := rfl
  rw [execAll_cons hstart]
  exact execAll_lineCodes hns ⟨rfl, rfl⟩ rfl rfl rfl

/-- Settles O56: no codeword stands at the head of the stream, so its first `LMAX` bits are held; and no lookup hits
beyond `LMAX`. -/
theorem deadPrefixFailsAfterLmaxBits : Obligations.DeadPrefixFailsAfterLmaxBits := by
  intro s d tail hs hd hlen
  have hno := noCodewordAtHead_dead s.color hd tail
  generalize d ++ tail = bits at hlen hno ⊢
  obtain rfl | ⟨held, last, rfl⟩ := List.eq_nil_or_concat' bits
  · simp at hlen
  have hheldLen : held.length = lmax t4mh s.color := by simpa using hlen
  obtain ⟨hheld, hcolor⟩ := deliverBits_holds hs hheldLen.le (hno.of_append)
  rw [← hheldLen, List.take_left, deliverBits_append, hheldLen, ← hcolor]
  rw [← hcolor] at hheldLen
  exact ⟨hheld.1, hheld.invalid_bit hheldLen last⟩

end Sys2Proof.Machine
end

section
/-! SUPPORT. A bit shifted in and its length as they are stored (R81, R83, R84). And the bits of an awaited codeword
offered one a cycle (R85, R96). -/

namespace Sys2Proof.Machine

/-- Below 14 bits nothing is lost of the bits held when one more is shifted in (R81). -/
theorem shiftIn_toNat_of_lt {acc : CodeAcc} (h : acc.toNat < 2 ^ 13) (b : Bool) :
    (shiftIn acc b).toNat = 2 * acc.toNat + b.toNat := by
  have := b.toNat_lt
  rw [shiftIn_toNat, Nat.mod_eq_of_lt (by omega)]

/-- Bit 0 of the shifted accumulator is the bit shifted in (R81). -/
theorem shiftIn_getLsbD_zero (acc : CodeAcc) (b : Bool) : (shiftIn acc b).getLsbD 0 = b := by
  rw [BitVec.getLsbD, shiftIn_toNat, Nat.testBit_mod_two_pow, shifted_testBit_zero]
  rfl

/-- `len1` as a register value is the register's successor (R80). -/
theorem ofNat_nextLen (s : State) : BitVec.ofNat Config.lenW (nextLen s) = s.codeLen + 1 := by
  rw [nextLen, BitVec.ofNat_add, BitVec.ofNat_toNat, BitVec.setWidth_eq]
  rfl

/-- A length that fits its register is stored as the register's successor (R83, R84). -/
theorem storedLen_nextLen {s : State} (h : nextLen s < 16) (acc : CodeAcc) :
    storedLen (nextLen s) acc = s.codeLen + 1 :=
  (storedLen_of_lt h acc).trans (ofNat_nextLen s)

/-- `len1` fits the register from every length but 15 (R24). -/
theorem nextLen_lt_of_ne {s : State} (h : s.codeLen ≠ 15) : nextLen s < 16 := by
  have : s.codeLen.toNat ≠ 15 := fun h15 => h (BitVec.eq_of_toNat_eq h15)
  have := s.codeLen.isLt
  simp only [nextLen, Config.lenW] at *
  omega

/-- The instruction `Bit` is the `Bit` event (R80). -/
theorem exec_bit (b : Bool) (s : State) : exec (.bit b) s = .next (bitEvent b s) := rfl

/-- An awaited codeword has bits left. -/
theorem exists_bitsLeft_of_awaits {s : State} {cw : Codeword} (ha : s.awaits cw = true) :
    ∃ k, s.bitsLeft cw = k + 1 := by
  obtain ⟨-, -, hlen, -⟩ := (awaits_iff s cw).1 ha
  exact ⟨cw.len - s.codeLen.toNat - 1, by rw [State.bitsLeft]; omega⟩

/-- The next bit and the bits after it make up a codeword's length. -/
theorem nextLen_add_of_bitsLeft {s : State} {cw : Codeword} {k : Nat} (h : s.bitsLeft cw = k + 1) :
    nextLen s + k = cw.len := by
  rw [State.bitsLeft] at h
  rw [nextLen]
  omega

/-- With `k` bits to come after it, the next bit of a codeword is bit `k` of its pattern (R47). -/
theorem codeBit_of_bitsLeft {s : State} {cw : Codeword} {k : Nat} (h : s.bitsLeft cw = k + 1) :
    codeBit cw s.codeLen.toNat = cw.pattern.toNat.testBit k := by
  rw [State.bitsLeft] at h
  rw [codeBit, show cw.len - 1 - s.codeLen.toNat = k by omega]

/-- On the way to an awaited codeword each bit leaves one bit less to come. -/
theorem bitsLeft_on_the_way {i : Instr} {cw : Codeword} {s : State} (h : i.codeword = some cw)
    (ha : s.awaits cw = true) {k : Nat} (hk : s.bitsLeft cw = k + 1 + 1) :
    (bitEvent (codeBit cw s.codeLen.toNat) s).bitsLeft cw = k + 1 := by
  have hn := nextLen_add_of_bitsLeft hk
  have hlen : cw.len ≤ 13 := (codeword_facts h).2.1.trans (lmax_le _)
  rw [(bitEvent_on_the_way h ha (by omega)).1]
  show cw.len - (BitVec.ofNat 4 (nextLen s)).toNat = k + 1
  rw [BitVec.toNat_ofNat, Nat.mod_eq_of_lt (by omega)]
  omega

/-- The host's side after `n` bits have been taken: what is left of its source and of its script, and its count (R105). -/
def State.hostAfter (s : State) (n : Nat) (rest : List Bool) (later : List HostMove) : State :=
  { s with source := rest, consumed := s.consumed + n, script := later }

theorem hostAfter_hostAfter (s : State) (m n : Nat) (bits rest : List Bool) (moves later : List HostMove) :
    (s.hostAfter m bits moves).hostAfter n rest later = s.hostAfter (m + n) rest later := by
  simp only [State.hostAfter, Nat.add_assoc]

/-- On the way to an awaited codeword a bit is held whatever the host's side is (R83). -/
theorem bitEvent_on_the_way_hostAfter {i : Instr} {cw : Codeword} {s : State} (h : i.codeword = some cw)
    (ha : s.awaits cw = true) (hn : nextLen s < cw.len) (n : Nat) (rest : List Bool) (later : List HostMove) :
    bitEvent (codeBit cw s.codeLen.toNat) (s.hostAfter n rest later)
      = (bitEvent (codeBit cw s.codeLen.toNat) s).hostAfter n rest later := by
  rw [(bitEvent_on_the_way h ha hn).1]
  exact (bitEvent_on_the_way (s := s.hostAfter n rest later) h ha hn).1

/-- A reading decoder takes the bit offered, and the host counts it (R105). -/
theorem step_offered_bit {s : State} {b : Bool} {bits : List Bool} {moves : List HostMove} (hst : s.st = .reading)
    (hsource : s.source = b :: bits) (hscript : s.script = offerBit :: moves) :
    step s = .next (bitEvent b (s.hostAfter 1 bits moves)) := by
  have hmove : s.move = offerBit := by rw [State.move, hscript]; rfl
  have hop : s.cycleOp = .bit := by
    simp [State.cycleOp, selectOp, State.ports, hmove, hst, hsource, offerBit, HostMove.quiet]
  have hbit : s.ports.bitIn = b := by rw [State.ports, hsource]; rfl
  have hend : s.endHeldAfter = s.endHeld := by
    rw [State.endHeldAfter, hop, State.ports, State.raisesEnd, State.keepsEnd, hmove, hst]
    cases s.endHeld <;> rfl
  have hadvance : s.advanceHost = s.hostAfter 1 bits moves := by
    simp [State.advanceHost, State.hostAfter, State.sourceAfter, State.consumedAfter, hend, hop, hsource, hscript]
  rw [step_of_bit hop, hbit, hadvance]

/-- A decoder that awaits a codeword, offered the codeword's next bit, takes it. -/
theorem step_awaited_codeword {cw : Codeword} {s : State} {k : Nat} {rest : List Bool} {later : List HostMove}
    (ha : s.awaits cw = true) (hk : s.bitsLeft cw = k + 1)
    (hsource : s.source = bitsOf (k + 1) cw.pattern.toNat ++ rest) (hscript : s.script = offers (k + 1) ++ later) :
    step s = .next (bitEvent (codeBit cw s.codeLen.toNat)
      (s.hostAfter 1 (bitsOf k cw.pattern.toNat ++ rest) (offers k ++ later))) := by
  obtain ⟨hst, -⟩ := (awaits_iff s cw).1 ha
  rw [codeBit_of_bitsLeft hk]
  exact step_offered_bit hst hsource hscript

/-- The bits left of an awaited codeword, offered one a cycle, take as many steps, and the codeword's action is
what they leave (R85, R96). -/
theorem run_awaited_codeword {i : Instr} {cw : Codeword} (h : i.codeword = some cw) {k : Nat} {s : State}
    {rest : List Bool} {later : List HostMove} (ha : s.awaits cw = true) (hk : s.bitsLeft cw = k + 1)
    (hsource : s.source = bitsOf (k + 1) cw.pattern.toNat ++ rest) (hscript : s.script = offers (k + 1) ++ later) :
    Host.Core.run Sys2Proof.core (k + 1) s = exec i (s.hostAfter (k + 1) rest later) := by
  induction k generalizing s with
  | zero =>
    have hlast := bitEvent_last_bit (s := s.hostAfter 1 rest later) h ha (nextLen_add_of_bitsLeft hk)
    exact (run_next (step_awaited_codeword ha hk hsource hscript)).trans hlast.symm
  | succ k ih =>
    have hstep := step_awaited_codeword ha hk hsource hscript
    have hn : nextLen s < cw.len := by have := nextLen_add_of_bitsLeft hk; omega
    obtain ⟨-, ha'⟩ := bitEvent_on_the_way h ha hn
    rw [bitEvent_on_the_way_hostAfter h ha hn] at hstep
    have hrest := ih (s := (bitEvent (codeBit cw s.codeLen.toNat) s).hostAfter 1
      (bitsOf (k + 1) cw.pattern.toNat ++ rest) (offers (k + 1) ++ later)) ha' (bitsLeft_on_the_way h ha hk) rfl rfl
    refine (run_next hstep).trans (hrest.trans ?_)
    rw [hostAfter_hostAfter, Nat.add_comm 1, ← bitEvent_on_the_way_hostAfter h ha hn]
    exact exec_on_the_way (s := s.hostAfter (k + 1 + 1) rest later) h ha hn

end Sys2Proof.Machine
end

section
/-! SUPPORT. The statements about one bit and about the bits of a codeword: what a `Bit` event stores, and that a codeword
is its bits. -/

namespace Sys2Proof.Machine

/-- Settles O52: a fresh decoder awaits the codeword, with all of its bits left. -/
theorem codewordConsumesExactlyItsBits : Obligations.CodewordConsumesExactlyItsBits := by
  intro i cw s rest later h hs hc hsource hscript
  obtain ⟨k, hk⟩ := exists_bitsLeft_of_awaits (awaits_codeword_of_fresh h hs hc)
  have hlen : cw.len = k + 1 := by rwa [State.bitsLeft, hs.2] at hk
  rw [Codeword.bits, hlen] at hsource
  rw [hlen] at hscript ⊢
  exact run_awaited_codeword h (awaits_codeword_of_fresh h hs hc) hk hsource hscript

/-- Settles O13: fewer than 14 bits are held, so the shift loses none. -/
theorem accumulatorShiftsInTheBit : Obligations.AccumulatorShiftsInTheBit := by
  intro s b hfits hlen
  have hshort : s.codeAcc.toNat < 2 ^ 13 := hfits.trans_le (Nat.pow_le_pow_right (by norm_num) hlen)
  exact ⟨shiftIn_toNat_of_lt hshort b, shiftIn_lt hfits b, shiftIn_getLsbD_zero s.codeAcc b⟩

/-- Settles O14: `LMAX` is at most 13, so the length fits its register. -/
theorem shortMissContinues : Obligations.ShortMissContinues := by
  intro b s hst hmiss hlen
  have hshort : nextLen s < 16 := by have := lmax_le s.color; omega
  rw [exec_bit, bitEvent_continues hst hmiss hlen, holdCode, storedLen_nextLen hshort]

/-- Settles O15: the length is stored as far as it fits its register, and the error is raised. -/
theorem overlongMissIsInvalidCodeword : Obligations.OverlongMissIsInvalidCodeword := by
  intro b s hst hmiss hlen
  refine ⟨storedLen (nextLen s) (shiftIn s.codeAcc b), fun h => storedLen_nextLen (nextLen_lt_of_ne h) _, ?_⟩
  rw [exec_bit, bitEvent_overlong hst hmiss hlen]
  rfl

/-- Settles O16: the action of the entry hit is R90's, and a hit is no longer than `LMAX`, so its length fits. -/
theorem terminatingHitCompletesTheRun : Obligations.TerminatingHitCompletesTheRun := by
  intro b s e hst hhit hk
  have hshort : nextLen s < 16 := by have := (hit_range hhit).2.1; have := lmax_le s.color; omega
  rw [exec_bit, bitEvent_hit hst hhit, entryAction_term hk]
  split
  next hfits => rw [terminatingAction_fits hfits]
  next hover => rw [terminatingAction_over (by omega), raiseOverflow_of_short hshort, ← ofNat_nextLen]

/-- Settles O28: an awaited codeword has a bit left, and each bit but the last leaves its meaning as it is. -/
theorem codewordIsItsRemainingBits : Obligations.CodewordIsItsRemainingBits := by
  intro i cw s h ha
  obtain ⟨k, hk⟩ := exists_bitsLeft_of_awaits ha
  rw [hk, exec_eq_deliverBits_left h ha hk]

/-- Settles O48: in every state a step is the operation of the cycle, here `Bit`. -/
theorem everyBitCycleIsTheBitOperation : Obligations.EveryBitCycleIsTheBitOperation := by
  intro s h
  rw [step_eq_exec_cycleOp, h, PortOp.instr]

/-- Settles O49: the step is the `Bit` event of the codeword's last bit, which runs its instruction. -/
theorem lastBitRunsTheCodeword : Obligations.LastBitRunsTheCodeword := by
  intro i cw s h ha hleft hop hbit
  have hlast : s.ports.bitIn = codeBit cw s.codeLen.toNat := hbit.trans (codeBit_of_bitsLeft hleft).symm
  rw [step_of_bit hop, hlast]
  exact (bitEvent_last_bit (s := s.advanceHost) h ha (nextLen_add_of_bitsLeft hleft)).symm

/-- Settles O12: a bit offered outside `READING` is not consumed. -/
theorem bitOutsideReadingChangesNothing : Obligations.BitOutsideReadingChangesNothing := by
  intro b s hst
  rw [exec_bit, bitEvent_not_reading hst]

end Sys2Proof.Machine
end

section
/-! SUPPORT. When the checked sum answers a value and when none (R95); the length of a hit; and the overflow of either
kind of code (R90, R91, R124). -/

namespace Sys2Proof.Machine

/-- The checked sum answers nothing exactly where the sum does not fit (R95). -/
theorem checkedAdd_eq_none_iff {w : Nat} {acc : BitVec w} {v : Nat} :
    checkedAdd w acc v = none ↔ 2 ^ w ≤ acc.toNat + v := by
  refine ⟨fun h => ?_, checkedAdd_over⟩
  by_contra hfits
  rw [checkedAdd_fits (not_le.1 hfits)] at h
  cases h

/-- The checked sum answers a value exactly where it is the sum (R95). -/
theorem checkedAdd_eq_some_iff {w : Nat} {acc t : BitVec w} {v : Nat} :
    checkedAdd w acc v = some t ↔ t.toNat = acc.toNat + v := by
  constructor
  · intro h
    have hfits : acc.toNat + v < 2 ^ w := by
      rw [← not_le, ← checkedAdd_eq_none_iff, h]
      simp
    rw [checkedAdd_fits hfits, Option.some.injEq] at h
    rw [← h, BitVec.toNat_ofNat, Nat.mod_eq_of_lt hfits]
  · intro h
    rw [checkedAdd_fits (h ▸ t.isLt), ← h, BitVec.ofNat_toNat, BitVec.setWidth_eq]

/-- The length of a hit fits `code_len`: a hit is no longer than `LMAX` (R24, R44). -/
theorem nextLen_lt_of_hit {s : State} {p : CodeAcc} {e : LutEntry}
    (h : lutRead t4mh s.color (nextLen s) p = some e) : nextLen s < 16 := by
  obtain ⟨-, hlen, -⟩ := hit_range h
  have := lmax_le s.color
  omega

/-- A makeup or terminating entry whose sum does not fit raises `RunOverflow` (R90, R91). -/
theorem entryAction_over {e : LutEntry} (hk : e.kind = .makeup ∨ e.kind = .term) {s : State}
    (h : 2 ^ Config.runW ≤ s.runAcc.toNat + runLengthOf e) (acc : CodeAcc) (len : Nat) :
    entryAction e acc len s = raiseOverflow acc len s := by
  rcases hk with hk | hk
  · rw [entryAction_makeup hk, makeupAction_over h]
  · rw [entryAction_term hk, terminatingAction_over h]

/-- An awaited makeup or terminating codeword whose sum does not fit is held, its bits and its length, and the error
raised (R120, R124). -/
theorem exec_awaited_over {i : Instr} {cw : Codeword} {s : State} (hcode : i.codeword = some cw)
    (hk : (entryOfInstr i).kind = .makeup ∨ (entryOfInstr i).kind = .term) (ha : s.awaits cw = true)
    (hf : s.CodeFits) (h : 2 ^ Config.runW ≤ s.runAcc.toNat + runLengthOf (entryOfInstr i)) :
    exec i s = .next
      { s with codeAcc := cw.pattern.setWidth 14, codeLen := BitVec.ofNat 4 cw.len, st := .error,
               errCode := .runOverflow } := by
  have hlen : cw.len ≤ 13 := (codeword_facts hcode).2.1.trans (lmax_le _)
  rw [exec_awaited hcode ha, entryAction_over hk h, raiseOverflow_of_short (by omega), accAtEnd_of_fits ha hf]

end Sys2Proof.Machine
end

section
/-! SUPPORT. The statements about the actions of a run: the makeup action, the overflow, the chain of makeup codes, the
end of the line, the sum. -/

namespace Sys2Proof.Machine

/-- Settles O17: the action of the entry hit is R91's, and the length of a hit fits its register. -/
theorem makeupHitExtendsTheRun : Obligations.MakeupHitExtendsTheRun := by
  intro b s e hst hhit hk
  rw [exec_bit, bitEvent_hit hst hhit]
  split
  next hfits => rw [entryAction_makeup hk, makeupAction_fits hfits]
  next hover =>
    rw [entryAction_over (.inl hk) (not_lt.1 hover), raiseOverflow_of_short (nextLen_lt_of_hit hhit),
      ← ofNat_nextLen]

/-- Settles O26: a row of either table is its instruction's entry, and both kinds of entry overflow alike. -/
theorem overflowHoldsTheCodeword : Obligations.OverflowHoldsTheCodeword := by
  intro c r hr s ha hf hover
  rcases List.mem_append.1 hr with hmakeup | hterm
  · obtain ⟨hcode, -, hkind, hrun⟩ := makeupTable_row hmakeup
    exact exec_awaited_over hcode (.inl hkind) ha hf (hrun ▸ hover)
  · obtain ⟨hcode, -, hkind, hrun⟩ := termTable_row hterm
    exact exec_awaited_over hcode (.inr hkind) ha hf (hrun ▸ hover)

/-- Settles O53: the chain adds up onto a pending sum, which here is 0. -/
theorem makeupChainEmitsTheSum : Obligations.MakeupChainEmitsTheSum := by
  intro c ms r s hms hr hs hc hzero hfits
  have hsum : s.runAcc.toNat + ((ms.map Claims.Row.run).sum + r.run) = (ms.map Claims.Row.run).sum + r.run := by
    rw [hzero]
    exact Nat.zero_add _
  have hall := execAll_makeups_term hms hr hs hc (hsum.trans_lt hfits)
  rwa [hsum] at hall

/-- Settles O18: the action of the entry hit is R92's. -/
theorem eolHitEndsTheLine : Obligations.EolHitEndsTheLine := by
  intro b s e hst hhit hk
  rw [exec_bit, bitEvent_hit hst hhit, entryAction_eol hk]
  rfl

/-- Settles O19: the value answered is the sum, and none is answered where the sum does not fit. -/
theorem runSumsNeverWrap : Obligations.RunSumsNeverWrap :=
  fun _ _ _ _ => ⟨checkedAdd_eq_some_iff, checkedAdd_eq_none_iff⟩

end Sys2Proof.Machine
end

section
/-! SUPPORT. The host's side of a cycle: what a step makes of the source, the count, the script and the kept `bit_end`, and
what the ports show of them (R105, R106, R144, R145). -/

namespace Sys2Proof.Machine

/-- No instruction writes the host's side, so a step leaves it as the host's own bookkeeping does. -/
theorem host_after_step {s t : State} (h : step s = .next t) :
    t.source = s.sourceAfter ∧ t.consumed = s.consumedAfter ∧ t.script = s.script.tail ∧
      t.endHeld = s.endHeldAfter := by
  obtain ⟨hsource, hconsumed, hscript, hend, -⟩ := instructionsLeaveTheHostAlone _ _ _ h
  exact ⟨hsource, hconsumed, hscript, hend⟩

theorem consumedAfter_of_bit {s : State} (h : s.cycleOp = .bit) : s.consumedAfter = s.consumed + 1 := if_pos h

theorem consumedAfter_of_not_bit {s : State} (h : s.cycleOp ≠ .bit) : s.consumedAfter = s.consumed := if_neg h

/-- A `Bit` cycle takes the bit on the port from the source (R105). -/
theorem source_of_bit {s : State} (h : s.cycleOp = .bit) : s.source = s.ports.bitIn :: s.sourceAfter := by
  have htail : s.sourceAfter = s.source.tail := by rw [State.sourceAfter, h]
  rw [htail]
  exact source_of_bitValid (reading_of_cycleOp_bit h).2

/-- Where a host that offers no bit may put its source anew, the source is as before or the new one (log entry 3). -/
theorem source_kept_or_new (offered : Bool) (new : Option (List Bool)) (bits : List Bool) :
    (if offered then bits else new.getD bits) = bits ∨
      offered = false ∧ new = some (if offered then bits else new.getD bits) := by
  cases offered with
  | true => exact .inl rfl
  | false =>
    cases new with
    | none => exact .inl rfl
    | some moved => exact .inr ⟨rfl, rfl⟩

/-- No other cycle takes a bit; the host may put its source anew in a `Start` or `Reset` cycle with no bit offered (R105,
R144; log entry 3). -/
theorem sourceAfter_of_not_bit {s : State} (h : s.cycleOp ≠ .bit) :
    s.sourceAfter = s.source ∨
      ((s.cycleOp = .start ∨ s.cycleOp = .reset) ∧ s.ports.bitValid = false ∧
        s.move.newSource = some s.sourceAfter) := by
  have hmoved := source_kept_or_new s.ports.bitValid s.move.newSource s.source
  unfold State.sourceAfter
  cases hop : s.cycleOp with
  | bit => exact absurd hop h
  | reset => exact hmoved.imp_right fun hnew => ⟨.inr rfl, hnew⟩
  | start => exact hmoved.imp_right fun hnew => ⟨.inl rfl, hnew⟩
  | endData | accept | idle => exact .inl rfl

/-- A bit that is offered and not consumed stays in the source (R145). -/
theorem sourceAfter_of_offered {s : State} (hvalid : s.ports.bitValid = true) (h : s.cycleOp ≠ .bit) :
    s.sourceAfter = s.source := by
  rcases sourceAfter_of_not_bit h with hsame | ⟨-, hnone, -⟩
  · exact hsame
  · rw [hvalid] at hnone
    cases hnone

/-- `bit_in` is the first bit of the source (R106). -/
theorem bitIn_congr {s t : State} (h : t.source = s.source) : t.ports.bitIn = s.ports.bitIn :=
  congrArg (List.headD · false) h

/-- A raised `bit_end` has no bit left behind it, or a bit offered beside it (R106; log entry 20). -/
theorem source_of_raisesEnd {s : State} (h : s.raisesEnd = true) : s.source = [] ∨ s.ports.bitValid = true := by
  cases hs : s.source with
  | nil => exact .inl rfl
  | cons b bits =>
    have hoffered : s.move.bitEnd = true ∧ s.move.bitValid = true := by simpa [State.raisesEnd, hs] using h
    exact .inr (by simp [State.ports, hoffered.2, hs])

/-- `bit_end` is 1 where the host raises it or keeps it (R106). -/
theorem bitEnd_eq_true_iff (s : State) : s.ports.bitEnd = true ↔ s.raisesEnd = true ∨ s.keepsEnd = true :=
  Bool.or_eq_true_iff

/-- `bit_end` is kept at 1 until `done` (R106). -/
theorem keepsEnd_eq_true_iff (s : State) : s.keepsEnd = true ↔ s.endHeld = true ∧ s.outputs.done = false := by
  simp [State.keepsEnd, State.outputs]

/-- A `bit_end` at 1 is to be kept, but that `Start` and `Reset` release it (R106; log entry 20). -/
theorem endHeldAfter_of_bitEnd {s : State} (h : s.ports.bitEnd = true) (hstart : s.cycleOp ≠ .start)
    (hreset : s.cycleOp ≠ .reset) : s.endHeldAfter = true := by
  simp [State.endHeldAfter, h, hstart, hreset]

end Sys2Proof.Machine
end

section
/-! SUPPORT. The statements about the host operations: what each does, in which states none acts, and the host's side of a
cycle. -/

namespace Sys2Proof.Machine

/-- The instruction `Accept` is the host's taking of the run (R102). -/
theorem exec_accept (s : State) : exec .accept s = .next (acceptRun s) := rfl

/-- The instruction `End` is the end of the source (R103). -/
theorem exec_endData (s : State) : exec .endData s = .next (endOfSource s) := rfl

/-- Settles O34: outside `READING` every instruction begins a line, takes a run or reads, and reading does nothing there. -/
theorem nothingElseActsOutsideReading : Obligations.NothingElseActsOutsideReading :=
  fun _ _ => exec_outside_reading

/-- Settles O50: a step leaves the host's side to the host, whose source and count follow the operation of the cycle. -/
theorem bitsLeaveTheSourceOnlyWhenConsumed : Obligations.BitsLeaveTheSourceOnlyWhenConsumed := by
  intro s t h
  obtain ⟨hsource, hconsumed, hscript, -⟩ := host_after_step h
  rw [hsource, hconsumed]
  refine ⟨hscript, fun hbit => ?bit, fun hother => ?other⟩
  case bit => exact ⟨(reading_of_cycleOp_bit hbit).1, source_of_bit hbit, consumedAfter_of_bit hbit⟩
  case other => exact ⟨consumedAfter_of_not_bit hother, sourceAfter_of_not_bit hother⟩

/-- Settles O60: `bit_end` is raised or kept; what is at 1 is kept by the next state too; and the source keeps an offered
bit. -/
theorem hostKeepsItsDuties : Obligations.HostKeepsItsDuties := by
  intro s t h
  obtain ⟨hsource, -, -, hend⟩ := host_after_step h
  refine ⟨fun hone => ?raised, fun hone hstart hreset hdone => ?kept, fun hvalid hother => ?offered⟩
  case raised =>
    rcases (bitEnd_eq_true_iff s).1 hone with hraises | hkeeps
    · exact .inr (source_of_raisesEnd hraises)
    · exact .inl ((keepsEnd_eq_true_iff s).1 hkeeps).1
  case kept =>
    have hheld : t.endHeld = true := hend.trans (endHeldAfter_of_bitEnd hone hstart hreset)
    exact (bitEnd_eq_true_iff t).2 (.inr ((keepsEnd_eq_true_iff t).2 ⟨hheld, hdone⟩))
  case offered => exact bitIn_congr (hsource.trans (sourceAfter_of_offered hvalid hother))

/-- Settles O31: `Accept` where it is enabled. -/
theorem acceptDeliversTheHeldRun : Obligations.AcceptDeliversTheHeldRun := by
  intro s hst
  rw [exec_accept, acceptRun_of_runComplete hst]

/-- Settles O32: the instruction is `End`, whose error entry writes `st` and `err_code` alone. -/
theorem endOfDataIsCleanOrUnexpected : Obligations.EndOfDataIsCleanOrUnexpected := by
  intro s
  rw [exec_endData, endOfSource, raiseError]

/-- Settles O33: `Idle` is no operation. -/
theorem idleChangesNothing : Obligations.IdleChangesNothing := fun _ => rfl

/-- Settles O35: `Accept` where it is not enabled. -/
theorem acceptElsewhereChangesNothing : Obligations.AcceptElsewhereChangesNothing := by
  intro s hst
  rw [exec_accept, acceptRun_elsewhere hst]

/-- Settles O47: the operation of the cycle is selected by R105's chain over the ports. -/
theorem cycleOperationByPriority : Obligations.CycleOperationByPriority := fun _ => rfl

end Sys2Proof.Machine
end

section
/-! SUPPORT. One attempt at a codeword: each bit ends it or makes the codeword held longer, and beyond `LMAX` none goes on
(R83, R84). -/

namespace Sys2Proof.Machine

/-- The decoder is within no codeword: it has left `READING` or holds no bits (R20, R24). -/
def State.AttemptOver (s : State) : Prop := s.st ≠ .reading ∨ s.codeLen = 0

/-- The action of an entry clears the codeword or, on an overflow, leaves `READING` (R90 to R92). -/
theorem ActionCase.attemptOver {e : LutEntry} {acc : CodeAcc} {len : Nat} {s t : State}
    (h : ActionCase e acc len s t) : t.AttemptOver := by
  cases h with
  | run _ _ ht | extend _ _ ht | lineEnd _ ht => exact .inr (ht ▸ rfl)
  | overflow _ _ ht => exact .inl (by simp [ht])

/-- From `s` to `t` the decoder goes on with its codeword: it reads on in the same bank and holds one more bit, of at most
`LMAX` (R83). -/
def State.GoesOn (s t : State) : Prop :=
  t.st = .reading ∧ t.color = s.color ∧ t.codeLen.toNat = nextLen s ∧ nextLen s ≤ lmax t4mh s.color

/-- A bit in `READING` ends the attempt or goes on with it (R82 to R84). -/
theorem bitEvent_attemptOver_or_goesOn {s : State} (hst : s.st = .reading) (b : Bool) :
    (bitEvent b s).AttemptOver ∨ s.GoesOn (bitEvent b s) := by
  cases bitEvent_cases b s with
  | notConsumed h _ => exact absurd hst h
  | hit _ _ _ haction => exact .inl haction.attemptOver
  | overlong _ _ _ ht => exact .inl (.inl (by simp [ht]))
  | continues _ _ hl ht =>
    have hshort : nextLen s < 16 := by have := lmax_le s.color; omega
    rw [ht]
    exact .inr ⟨hst, rfl, storedLen_toNat hshort _, hl⟩

/-- An attempt takes at most `LMAX + 1` bits, those already held among them (R83, R84). -/
theorem deliverBits_attemptOver {s : State} {bits : List Bool} (hst : s.st = .reading)
    (hheld : s.codeLen.toNat ≤ lmax t4mh s.color) (htotal : s.codeLen.toNat + bits.length = lmax t4mh s.color + 1) :
    ∃ k, 1 ≤ k ∧ k ≤ bits.length ∧ (deliverBits (bits.take k) s).AttemptOver := by
  induction bits generalizing s with
  | nil => simp only [List.length_nil] at htotal; omega
  | cons b bits ih =>
    rw [List.length_cons] at htotal ⊢
    rcases bitEvent_attemptOver_or_goesOn hst b with hover | ⟨hst', hcolor, hlen, hmax⟩
    · exact ⟨1, le_rfl, by omega, hover⟩
    · have hone : nextLen s = s.codeLen.toNat + 1 := rfl
      obtain ⟨k, -, hk, hover⟩ := ih hst' (by rw [hcolor]; omega) (by rw [hcolor]; omega)
      exact ⟨k + 1, by omega, by omega, hover⟩

end Sys2Proof.Machine
end

section
/-! SUPPORT. The statements about the bound on a codeword attempt and about the answer of every instruction (R149). -/

namespace Sys2Proof.Machine

/-- Settles O57: by R27 (b) at most `LMAX` bits are held, and each of those that follow ends the attempt or is one more of
`LMAX`. -/
theorem codewordAttemptIsBounded : Obligations.CodewordAttemptIsBounded := by
  intro s bits hinv hst htotal
  obtain ⟨-, hheld, -⟩ := (invOver_iff_of_reading hst).1 hinv
  exact deliverBits_attemptOver hst hheld htotal

/-- Settles O38: a codeword answers what its reading leaves, and each host operation its own next state. -/
theorem everyInstructionAnswers : Obligations.EveryInstructionAnswers := exec_answers

end Sys2Proof.Machine
end
